-- ==== Sys2Proof/Word.lean ====
section
/-! DEFINITION. The word types: octets and selector words. -/

namespace Sys2Proof

/-- An 8-bit unsigned value, the unit exchanged between the stages (20_memory.md R69). -/
abbrev Octet := BitVec 8

/-- The 12-bit transition selector `sel[11:0]` (30_encoding.md R90). -/
abbrev SelectorWord := BitVec 12

end Sys2Proof
end

