-- ==== Sys2Proof/Config.lean ====
section
/-! DEFINITION. What an implementation fixes (the parameters and the wiring) and what the embedding system
drives (the inputs of a tick), with the opaque constants that stand for both where the spec leaves them open. -/

namespace Sys2Proof

/-- The levels the embedding system drives during one tick: the eleven inputs of 00_scope.md R19.
`true` is 1 (high). -/
structure Inputs where
  /-- The serial line into RX; `true` is the idle level (10_state.md R26). -/
  rxI : Bool
  /-- Acknowledge from the consumer of RX (R26). -/
  rxAck : Bool
  /-- Reset level of RX (R26). -/
  rxRst : Bool
  /-- The producer has an octet for TX (R32). -/
  txRdy : Bool
  /-- The octet to send (R32). -/
  txData : Octet
  /-- Reset level of TX (R32). -/
  txRst : Bool
  /-- A byte is on the decoder's input (R38). -/
  iRdy : Bool
  /-- The decoder's input byte (R38). -/
  iData : Octet
  /-- A chunk is on the restrider's input (R42). -/
  iLatch : Bool
  /-- The restrider's input chunk (R42). -/
  rsData : Octet
  /-- Read-acknowledge from the sink (R42). -/
  outReadAck : Bool
  deriving DecidableEq, Repr, Inhabited

/-- One tick of `IDLE` in the stimulus notation of 30_encoding.md R97: every request, acknowledge and reset
input 0 and the line high. -/
def Inputs.idle : Inputs :=
  { rxI := true, rxAck := false, rxRst := false, txRdy := false, txData := 0, txRst := false,
    iRdy := false, iData := 0, iLatch := false, rsData := 0, outReadAck := false }

/-- Which machines are wired together; fixed at construction. -/
structure Wiring where
  /-- RX drives COBS and `rx_ack` is tied to 1 (45_pipeline.md R197). -/
  rxToCobs : Bool
  /-- COBS drives RS (45_pipeline.md R199). -/
  cobsToRs : Bool
  /-- Loop-back: `tx_o` drives `rx_i` (42_uart_tx.md R155). -/
  txToRx : Bool
  deriving DecidableEq, Repr

/-- Every machine on its own, with all eleven inputs free (00_scope.md R19). -/
def Wiring.separate : Wiring := { rxToCobs := false, cobsToRs := false, txToRx := false }

/-- The ingestion pipeline line, RX, COBS, RS, sink (45_pipeline.md R195, R204). -/
def Wiring.pipeline : Wiring := { rxToCobs := true, cobsToRs := true, txToRx := false }

/-- The implementation parameters of 00_scope.md R9. They are fixed at construction and no operation writes
them. RX and TX have a divisor each, which R9 (decision D3) allows. -/
structure Params where
  /-- Ticks per bit period of RX. -/
  dRx : Nat
  /-- Ticks per bit period of TX. -/
  dTx : Nat
  /-- Restrider chunks per word. -/
  k : Nat
  wiring : Wiring
  deriving DecidableEq, Repr

/-- The ranges of 00_scope.md R9: `D >= 1` and `K >= 1`. -/
abbrev Params.InRange (p : Params) : Prop := 1 ≤ p.dRx ∧ 1 ≤ p.dTx ∧ 1 ≤ p.k

/-- The open divisor, less one. Opaque: no statement can rest on its value. -/
opaque Config.divisorLessOne : Nat

/-- The open chunk count, less one. Opaque: no statement can rest on its value. -/
opaque Config.chunkCountLessOne : Nat

/-- The divisor `D >= 1` of this implementation (00_scope.md R9: OPEN). -/
def Config.divisor : Nat := Config.divisorLessOne + 1

/-- The chunk count `K >= 1` of this implementation (00_scope.md R9: OPEN). -/
def Config.chunkCount : Nat := Config.chunkCountLessOne + 1

/-- What the embedding system drives in the tick of this index, where no stimulus says it
(00_scope.md R19: 'whatever the embedding system drives'). A free value: opaque, with no law. -/
opaque Config.environment : Nat → Inputs

/-- The parameters of the state after reset: one open divisor for RX and TX, the open chunk count, and free
inputs. DESIGN CHOICE (log 6, log 7); unsafe only for a statement about `State.reset` alone. -/
def Config.params : Params :=
  { dRx := Config.divisor, dTx := Config.divisor, k := Config.chunkCount, wiring := Wiring.separate }

/-- `w(n) = max(1, ceil(log2 n))`, the width of a counter that holds `0 .. n-1` (00_scope.md R9). -/
def Config.counterWidth (n : Nat) : Nat := max 1 (Nat.clog 2 n)

end Sys2Proof
end

