-- ==== Sys2Proof/Syntax.lean ====
section
/-! DEFINITION. The operations: one constructor for each row of spec/opcode_table.json. The fields of a
constructor are the bits of the row's selector that the row leaves free (30_encoding.md R90 to R94). -/

namespace Sys2Proof

/-- The four machines (00_scope.md R5), the field `m` of the selector (30_encoding.md R90). -/
inductive Agent where
  | rx | tx | cobs | rs
  deriving DecidableEq, Repr

/-- The 35 operations (30_encoding.md R95). `s` is a state code, `p` the strobe or valid bit, `q` the line or
request bit, `a` the acknowledge bit, `l` the last bit, `v` the value class (R90). -/
inductive Instr where
  /-- `RX.RESET` (41_uart_rx.md R112). -/
  | rxReset (s : BitVec 3) (p q a l : Bool)
  /-- `RX.IDLE.WAIT` (41_uart_rx.md R113). -/
  | rxIdleWait (p a l : Bool)
  /-- `RX.IDLE.DETECT` (41_uart_rx.md R114). -/
  | rxIdleDetect (p a l : Bool)
  /-- `RX.START.WAIT` (41_uart_rx.md R115). -/
  | rxStartWait (q a l : Bool)
  /-- `RX.START.GO` (41_uart_rx.md R116). -/
  | rxStartGo (q a l : Bool)
  /-- `RX.DATA.WAIT` (41_uart_rx.md R117). -/
  | rxDataWait (q a l : Bool)
  /-- `RX.DATA.SHIFT` (41_uart_rx.md R118). -/
  | rxDataShift (q a : Bool)
  /-- `RX.DATA.LAST` (41_uart_rx.md R119). -/
  | rxDataLast (q a : Bool)
  /-- `RX.STOP.WAIT` (41_uart_rx.md R120). -/
  | rxStopWait (q a l : Bool)
  /-- `RX.STOP.OK` (41_uart_rx.md R121). -/
  | rxStopOk (a l : Bool)
  /-- `RX.STOP.FERR` (41_uart_rx.md R122). -/
  | rxStopFerr (a l : Bool)
  /-- `RX.FULL.ACK` (41_uart_rx.md R123). -/
  | rxFullAck (p q l : Bool)
  /-- `RX.FULL.OVERRUN` (41_uart_rx.md R124). -/
  | rxFullOverrun (p l : Bool)
  /-- `RX.FULL.HOLD` (41_uart_rx.md R125). -/
  | rxFullHold (p l : Bool)
  /-- `RX.ERROR.HOLD` (41_uart_rx.md R126). -/
  | rxErrorHold (p q a l : Bool)
  /-- `TX.RESET` (42_uart_tx.md R142). -/
  | txReset (s : BitVec 3) (p q l : Bool)
  /-- `TX.IDLE.HOLD` (42_uart_tx.md R143). -/
  | txIdleHold (p l : Bool)
  /-- `TX.IDLE.LOAD` (42_uart_tx.md R144). -/
  | txIdleLoad (p l : Bool)
  /-- `TX.START.WAIT` (42_uart_tx.md R145). -/
  | txStartWait (q l : Bool)
  /-- `TX.START.DRIVE` (42_uart_tx.md R146). -/
  | txStartDrive (q l : Bool)
  /-- `TX.DATA.WAIT` (42_uart_tx.md R147). -/
  | txDataWait (q l : Bool)
  /-- `TX.DATA.SHIFT` (42_uart_tx.md R148). -/
  | txDataShift (q : Bool)
  /-- `TX.DATA.LAST` (42_uart_tx.md R149). -/
  | txDataLast (q : Bool)
  /-- `TX.STOP.WAIT` (42_uart_tx.md R150). -/
  | txStopWait (q l : Bool)
  /-- `TX.STOP.DRIVE` (42_uart_tx.md R151). -/
  | txStopDrive (q l : Bool)
  /-- `COBS.IDLE` (43_cobs_decoder.md R162). -/
  | cobsIdle (s : BitVec 3) (l : Bool) (v : BitVec 2)
  /-- `COBS.LEN.ONE` (43_cobs_decoder.md R163). -/
  | cobsLenOne (l : Bool)
  /-- `COBS.LEN.N` (43_cobs_decoder.md R164). -/
  | cobsLenN (l : Bool)
  /-- `COBS.LEN.ZERO` (43_cobs_decoder.md R166). -/
  | cobsLenZero (l : Bool)
  /-- `COBS.DATA.MID` (43_cobs_decoder.md R167). -/
  | cobsDataMid (v : BitVec 2)
  /-- `COBS.DATA.LAST` (43_cobs_decoder.md R168). -/
  | cobsDataLast (v : BitVec 2)
  /-- `RS.HOLD` (44_restrider.md R182). -/
  | rsHold (l : Bool)
  /-- `RS.WRITE.MID` (44_restrider.md R183). -/
  | rsWriteMid (a : Bool)
  /-- `RS.WRITE.LAST` (44_restrider.md R184). -/
  | rsWriteLast (a : Bool)
  /-- `RS.ACK` (44_restrider.md R185). -/
  | rsAck (l : Bool)
  deriving DecidableEq, Repr

/-- The machine that performs the operation. -/
def Instr.agent : Instr → Agent
  | .rxReset _ _ _ _ _ => .rx
  | .rxIdleWait _ _ _ => .rx
  | .rxIdleDetect _ _ _ => .rx
  | .rxStartWait _ _ _ => .rx
  | .rxStartGo _ _ _ => .rx
  | .rxDataWait _ _ _ => .rx
  | .rxDataShift _ _ => .rx
  | .rxDataLast _ _ => .rx
  | .rxStopWait _ _ _ => .rx
  | .rxStopOk _ _ => .rx
  | .rxStopFerr _ _ => .rx
  | .rxFullAck _ _ _ => .rx
  | .rxFullOverrun _ _ => .rx
  | .rxFullHold _ _ => .rx
  | .rxErrorHold _ _ _ _ => .rx
  | .txReset _ _ _ _ => .tx
  | .txIdleHold _ _ => .tx
  | .txIdleLoad _ _ => .tx
  | .txStartWait _ _ => .tx
  | .txStartDrive _ _ => .tx
  | .txDataWait _ _ => .tx
  | .txDataShift _ => .tx
  | .txDataLast _ => .tx
  | .txStopWait _ _ => .tx
  | .txStopDrive _ _ => .tx
  | .cobsIdle _ _ _ => .cobs
  | .cobsLenOne _ => .cobs
  | .cobsLenN _ => .cobs
  | .cobsLenZero _ => .cobs
  | .cobsDataMid _ => .cobs
  | .cobsDataLast _ => .cobs
  | .rsHold _ => .rs
  | .rsWriteMid _ => .rs
  | .rsWriteLast _ => .rs
  | .rsAck _ => .rs

end Sys2Proof
end

