-- ==== Sys2Proof/WellFormed.lean ====
section
/-! DEFINITION. Which operations are well formed: no field holds a reserved value (30_encoding.md R95). -/

namespace Sys2Proof

/-- `s` names a state of the machine: RX has codes 0 to 5, TX 0 to 3, COBS 0 and 1, RS 0 (30_encoding.md R91
to R95). -/
def Agent.stateCodeOk (m : Agent) (s : BitVec 3) : Bool :=
  match m with
  | .rx => s.toNat < 6
  | .tx => s.toNat < 4
  | .cobs => s.toNat < 2
  | .rs => s.toNat < 1

/-- `v` names a value class: `11` names none (30_encoding.md R95). -/
def valueClassOk (v : BitVec 2) : Bool := v != 3

/-- No field of the operation holds a value that R95 reserves. -/
def Instr.wellFormed : Instr → Bool
  | .rxReset s _ _ _ _ => Agent.stateCodeOk .rx s
  | .rxIdleWait _ _ _ => true
  | .rxIdleDetect _ _ _ => true
  | .rxStartWait _ _ _ => true
  | .rxStartGo _ _ _ => true
  | .rxDataWait _ _ _ => true
  | .rxDataShift _ _ => true
  | .rxDataLast _ _ => true
  | .rxStopWait _ _ _ => true
  | .rxStopOk _ _ => true
  | .rxStopFerr _ _ => true
  | .rxFullAck _ _ _ => true
  | .rxFullOverrun _ _ => true
  | .rxFullHold _ _ => true
  | .rxErrorHold _ _ _ _ => true
  | .txReset s _ _ _ => Agent.stateCodeOk .tx s
  | .txIdleHold _ _ => true
  | .txIdleLoad _ _ => true
  | .txStartWait _ _ => true
  | .txStartDrive _ _ => true
  | .txDataWait _ _ => true
  | .txDataShift _ => true
  | .txDataLast _ => true
  | .txStopWait _ _ => true
  | .txStopDrive _ _ => true
  | .cobsIdle s _ v => Agent.stateCodeOk .cobs s && valueClassOk v
  | .cobsLenOne _ => true
  | .cobsLenN _ => true
  | .cobsLenZero _ => true
  | .cobsDataMid v => valueClassOk v
  | .cobsDataLast v => valueClassOk v
  | .rsHold _ => true
  | .rsWriteMid _ => true
  | .rsWriteLast _ => true
  | .rsAck _ => true

end Sys2Proof
end

