-- ==== Sys2Proof/Decode.lean ====
section
/-! DEFINITION. The transition selector, the decoder from a selector to an operation, the encoder back, and the
opcode table as data (30_encoding.md R90 to R95). -/

namespace Sys2Proof

/-- The fields of the 12-bit selector `sel[11:0]` of one machine in one tick (30_encoding.md R90). -/
structure Selector where
  /-- Bits 11:10, the machine. -/
  m : Agent
  /-- Bit 9, reset. -/
  r : Bool
  /-- Bits 8:6, the state code. -/
  s : BitVec 3
  /-- Bit 5, strobe or valid. -/
  p : Bool
  /-- Bit 4, line or request. -/
  q : Bool
  /-- Bit 3, acknowledge. -/
  a : Bool
  /-- Bit 2, last. -/
  l : Bool
  /-- Bits 1:0, the value class. -/
  v : BitVec 2
  deriving DecidableEq, Repr

/-- The code of the field `m`: RX `00`, TX `01`, COBS `10`, RS `11` (30_encoding.md R91 to R94). -/
def Agent.code : Agent → BitVec 2
  | .rx => 0
  | .tx => 1
  | .cobs => 2
  | .rs => 3

/-- The machine a code of the field `m` names; all four codes name one. -/
def Agent.ofCode (c : BitVec 2) : Agent :=
  match c.toNat with
  | 0 => .rx
  | 1 => .tx
  | 2 => .cobs
  | _ => .rs

/-- The selector as the 12-bit word `mm r sss p q a l vv` (30_encoding.md R90). -/
def Selector.toWord (x : Selector) : SelectorWord :=
  x.m.code ++ BitVec.ofBool x.r ++ x.s ++ BitVec.ofBool x.p ++ BitVec.ofBool x.q ++
    BitVec.ofBool x.a ++ BitVec.ofBool x.l ++ x.v

/-- The fields of a 12-bit word (30_encoding.md R90). -/
def Selector.ofWord (w : SelectorWord) : Selector :=
  { m := Agent.ofCode (w.extractLsb' 10 2), r := w.getLsbD 9, s := w.extractLsb' 6 3,
    p := w.getLsbD 5, q := w.getLsbD 4, a := w.getLsbD 3, l := w.getLsbD 2, v := w.extractLsb' 0 2 }

/-- Why a selector names no operation (30_encoding.md R95). -/
inductive DecodeError where
  /-- A bit above bit 11 is set. -/
  | wordTooWide
  /-- The state code names no state of the machine. -/
  | reservedState
  /-- The value class `11`. -/
  | reservedValueClass
  /-- A field the machine fixes at 0 is not 0. -/
  | fixedFieldSet
  deriving DecidableEq, Repr

/-- The RX rows (30_encoding.md R91). -/
def decodeRx (x : Selector) : Except DecodeError Instr :=
  if x.v ≠ 0 then .error .fixedFieldSet
  else if 6 ≤ x.s.toNat then .error .reservedState
  else if x.r then .ok (.rxReset x.s x.p x.q x.a x.l)
  else match x.s.toNat with
    | 0 => .ok (if x.q then .rxIdleWait x.p x.a x.l else .rxIdleDetect x.p x.a x.l)
    | 1 => .ok (if x.p then .rxStartGo x.q x.a x.l else .rxStartWait x.q x.a x.l)
    | 2 => .ok (if x.p then (if x.l then .rxDataLast x.q x.a else .rxDataShift x.q x.a)
        else .rxDataWait x.q x.a x.l)
    | 3 => .ok (if x.p then (if x.q then .rxStopOk x.a x.l else .rxStopFerr x.a x.l)
        else .rxStopWait x.q x.a x.l)
    | 4 => .ok (if x.a then .rxFullAck x.p x.q x.l
        else if x.q then .rxFullHold x.p x.l else .rxFullOverrun x.p x.l)
    | _ => .ok (.rxErrorHold x.p x.q x.a x.l)

/-- The TX rows (30_encoding.md R92). -/
def decodeTx (x : Selector) : Except DecodeError Instr :=
  if x.v ≠ 0 ∨ x.a then .error .fixedFieldSet
  else if 4 ≤ x.s.toNat then .error .reservedState
  else if x.r then .ok (.txReset x.s x.p x.q x.l)
  else match x.s.toNat with
    | 0 => .ok (if x.q then .txIdleLoad x.p x.l else .txIdleHold x.p x.l)
    | 1 => .ok (if x.p then .txStartDrive x.q x.l else .txStartWait x.q x.l)
    | 2 => .ok (if x.p then (if x.l then .txDataLast x.q else .txDataShift x.q)
        else .txDataWait x.q x.l)
    | _ => .ok (if x.p then .txStopDrive x.q x.l else .txStopWait x.q x.l)

/-- The COBS rows (30_encoding.md R93). -/
def decodeCobs (x : Selector) : Except DecodeError Instr :=
  if x.r ∨ x.q ∨ x.a then .error .fixedFieldSet
  else if 2 ≤ x.s.toNat then .error .reservedState
  else if x.v = 3 then .error .reservedValueClass
  else if x.p then
    match x.s.toNat with
    | 0 =>
      match x.v.toNat with
      | 0 => .ok (.cobsLenN x.l)
      | 1 => .ok (.cobsLenOne x.l)
      | _ => .ok (.cobsLenZero x.l)
    | _ => .ok (if x.l then .cobsDataLast x.v else .cobsDataMid x.v)
  else .ok (.cobsIdle x.s x.l x.v)

/-- The RS rows (30_encoding.md R94). -/
def decodeRs (x : Selector) : Except DecodeError Instr :=
  if x.r ∨ x.q ∨ x.v ≠ 0 then .error .fixedFieldSet
  else if x.s ≠ 0 then .error .reservedState
  else .ok (if x.p then (if x.l then .rsWriteLast x.a else .rsWriteMid x.a)
    else if x.a then .rsAck x.l else .rsHold x.l)

/-- The operation a selector selects, or why it selects none (30_encoding.md R90, R95). -/
def decodeSelector (x : Selector) : Except DecodeError Instr :=
  match x.m with
  | .rx => decodeRx x
  | .tx => decodeTx x
  | .cobs => decodeCobs x
  | .rs => decodeRs x

/-- The decoder on the 12-bit word. -/
def decode (w : SelectorWord) : Except DecodeError Instr := decodeSelector (Selector.ofWord w)

/-- The decoder on a natural number: total, and refusing by name what is wider than a selector. -/
def decodeNat (w : Nat) : Except DecodeError Instr :=
  if w < 2 ^ 12 then decode (BitVec.ofNat 12 w) else .error .wordTooWide

/-- The operation the decoder reads from an opcode-table row's word of `nbits` bits. -/
def decodeTableWord (nbits w : Nat) : Option Instr := (decodeNat (w % 2 ^ nbits)).toOption

/-- The selector fields of an operation: its row's fixed bits and its free bits (30_encoding.md R91 to R94). -/
def Instr.selector : Instr → Selector
  | .rxReset s p q a l => ⟨.rx, true, s, p, q, a, l, 0⟩
  | .rxIdleWait p a l => ⟨.rx, false, 0, p, true, a, l, 0⟩
  | .rxIdleDetect p a l => ⟨.rx, false, 0, p, false, a, l, 0⟩
  | .rxStartWait q a l => ⟨.rx, false, 1, false, q, a, l, 0⟩
  | .rxStartGo q a l => ⟨.rx, false, 1, true, q, a, l, 0⟩
  | .rxDataWait q a l => ⟨.rx, false, 2, false, q, a, l, 0⟩
  | .rxDataShift q a => ⟨.rx, false, 2, true, q, a, false, 0⟩
  | .rxDataLast q a => ⟨.rx, false, 2, true, q, a, true, 0⟩
  | .rxStopWait q a l => ⟨.rx, false, 3, false, q, a, l, 0⟩
  | .rxStopOk a l => ⟨.rx, false, 3, true, true, a, l, 0⟩
  | .rxStopFerr a l => ⟨.rx, false, 3, true, false, a, l, 0⟩
  | .rxFullAck p q l => ⟨.rx, false, 4, p, q, true, l, 0⟩
  | .rxFullOverrun p l => ⟨.rx, false, 4, p, false, false, l, 0⟩
  | .rxFullHold p l => ⟨.rx, false, 4, p, true, false, l, 0⟩
  | .rxErrorHold p q a l => ⟨.rx, false, 5, p, q, a, l, 0⟩
  | .txReset s p q l => ⟨.tx, true, s, p, q, false, l, 0⟩
  | .txIdleHold p l => ⟨.tx, false, 0, p, false, false, l, 0⟩
  | .txIdleLoad p l => ⟨.tx, false, 0, p, true, false, l, 0⟩
  | .txStartWait q l => ⟨.tx, false, 1, false, q, false, l, 0⟩
  | .txStartDrive q l => ⟨.tx, false, 1, true, q, false, l, 0⟩
  | .txDataWait q l => ⟨.tx, false, 2, false, q, false, l, 0⟩
  | .txDataShift q => ⟨.tx, false, 2, true, q, false, false, 0⟩
  | .txDataLast q => ⟨.tx, false, 2, true, q, false, true, 0⟩
  | .txStopWait q l => ⟨.tx, false, 3, false, q, false, l, 0⟩
  | .txStopDrive q l => ⟨.tx, false, 3, true, q, false, l, 0⟩
  | .cobsIdle s l v => ⟨.cobs, false, s, false, false, false, l, v⟩
  | .cobsLenOne l => ⟨.cobs, false, 0, true, false, false, l, 1⟩
  | .cobsLenN l => ⟨.cobs, false, 0, true, false, false, l, 0⟩
  | .cobsLenZero l => ⟨.cobs, false, 0, true, false, false, l, 2⟩
  | .cobsDataMid v => ⟨.cobs, false, 1, true, false, false, false, v⟩
  | .cobsDataLast v => ⟨.cobs, false, 1, true, false, false, true, v⟩
  | .rsHold l => ⟨.rs, false, 0, false, false, false, l, 0⟩
  | .rsWriteMid a => ⟨.rs, false, 0, true, false, a, false, 0⟩
  | .rsWriteLast a => ⟨.rs, false, 0, true, false, a, true, 0⟩
  | .rsAck l => ⟨.rs, false, 0, false, false, true, l, 0⟩

/-- The encoder: the 12-bit selector word of an operation. -/
def encode (i : Instr) : SelectorWord := i.selector.toWord

/-- One row of spec/opcode_table.json: the operation whose `sel &&& mask = pattern`. -/
structure OpcodeRow where
  mnemonic : String
  pattern : SelectorWord
  mask : SelectorWord
  deriving DecidableEq, Repr

/-- A word matches a row (30_encoding.md R90). -/
def OpcodeRow.matches (row : OpcodeRow) (w : SelectorWord) : Bool := w &&& row.mask == row.pattern

/-- spec/opcode_table.json, in the table's order. -/
def opcodeTable : List OpcodeRow :=
  [⟨"RX.RESET", 0x200, 0xe03⟩,
   ⟨"RX.IDLE.WAIT", 0x010, 0xfd3⟩,
   ⟨"RX.IDLE.DETECT", 0x000, 0xfd3⟩,
   ⟨"RX.START.WAIT", 0x040, 0xfe3⟩,
   ⟨"RX.START.GO", 0x060, 0xfe3⟩,
   ⟨"RX.DATA.WAIT", 0x080, 0xfe3⟩,
   ⟨"RX.DATA.SHIFT", 0x0a0, 0xfe7⟩,
   ⟨"RX.DATA.LAST", 0x0a4, 0xfe7⟩,
   ⟨"RX.STOP.WAIT", 0x0c0, 0xfe3⟩,
   ⟨"RX.STOP.OK", 0x0f0, 0xff3⟩,
   ⟨"RX.STOP.FERR", 0x0e0, 0xff3⟩,
   ⟨"RX.FULL.ACK", 0x108, 0xfcb⟩,
   ⟨"RX.FULL.OVERRUN", 0x100, 0xfdb⟩,
   ⟨"RX.FULL.HOLD", 0x110, 0xfdb⟩,
   ⟨"RX.ERROR.HOLD", 0x140, 0xfc3⟩] ++
  [⟨"TX.RESET", 0x600, 0xe0b⟩,
   ⟨"TX.IDLE.HOLD", 0x400, 0xfdb⟩,
   ⟨"TX.IDLE.LOAD", 0x410, 0xfdb⟩,
   ⟨"TX.START.WAIT", 0x440, 0xfeb⟩,
   ⟨"TX.START.DRIVE", 0x460, 0xfeb⟩,
   ⟨"TX.DATA.WAIT", 0x480, 0xfeb⟩,
   ⟨"TX.DATA.SHIFT", 0x4a0, 0xfef⟩,
   ⟨"TX.DATA.LAST", 0x4a4, 0xfef⟩,
   ⟨"TX.STOP.WAIT", 0x4c0, 0xfeb⟩,
   ⟨"TX.STOP.DRIVE", 0x4e0, 0xfeb⟩] ++
  [⟨"COBS.IDLE", 0x800, 0xe38⟩,
   ⟨"COBS.LEN.ONE", 0x821, 0xffb⟩,
   ⟨"COBS.LEN.N", 0x820, 0xffb⟩,
   ⟨"COBS.LEN.ZERO", 0x822, 0xffb⟩,
   ⟨"COBS.DATA.MID", 0x860, 0xffc⟩,
   ⟨"COBS.DATA.LAST", 0x864, 0xffc⟩] ++
  [⟨"RS.HOLD", 0xc00, 0xffb⟩,
   ⟨"RS.WRITE.MID", 0xc20, 0xff7⟩,
   ⟨"RS.WRITE.LAST", 0xc24, 0xff7⟩,
   ⟨"RS.ACK", 0xc08, 0xffb⟩]

/-- The place of an operation's row in `opcodeTable`. -/
def Instr.rowIndex : Instr → Nat
  | .rxReset _ _ _ _ _ => 0
  | .rxIdleWait _ _ _ => 1
  | .rxIdleDetect _ _ _ => 2
  | .rxStartWait _ _ _ => 3
  | .rxStartGo _ _ _ => 4
  | .rxDataWait _ _ _ => 5
  | .rxDataShift _ _ => 6
  | .rxDataLast _ _ => 7
  | .rxStopWait _ _ _ => 8
  | .rxStopOk _ _ => 9
  | .rxStopFerr _ _ => 10
  | .rxFullAck _ _ _ => 11
  | .rxFullOverrun _ _ => 12
  | .rxFullHold _ _ => 13
  | .rxErrorHold _ _ _ _ => 14
  | .txReset _ _ _ _ => 15
  | .txIdleHold _ _ => 16
  | .txIdleLoad _ _ => 17
  | .txStartWait _ _ => 18
  | .txStartDrive _ _ => 19
  | .txDataWait _ _ => 20
  | .txDataShift _ => 21
  | .txDataLast _ => 22
  | .txStopWait _ _ => 23
  | .txStopDrive _ _ => 24
  | .cobsIdle _ _ _ => 25
  | .cobsLenOne _ => 26
  | .cobsLenN _ => 27
  | .cobsLenZero _ => 28
  | .cobsDataMid _ => 29
  | .cobsDataLast _ => 30
  | .rsHold _ => 31
  | .rsWriteMid _ => 32
  | .rsWriteLast _ => 33
  | .rsAck _ => 34

/-- The reserved selector values, in the words of 30_encoding.md R95: the state codes that name no state, the
value class that names none, and the fields a machine fixes at 0. -/
def Selector.reserved (x : Selector) : Bool :=
  match x.m with
  | .rx => x.s == 6 || x.s == 7 || x.v != 0
  | .tx => x.s == 4 || x.s == 5 || x.s == 6 || x.s == 7 || x.a || x.v != 0
  | .cobs => (x.s != 0 && x.s != 1) || x.v == 3 || x.r || x.q || x.a
  | .rs => x.s != 0 || x.r || x.q || x.v != 0

end Sys2Proof
end

