-- ==== Sys2Proof/Machine/State.lean ====
section
/-! DEFINITION. The registers of the four machines, the state of the whole hardware, the state after reset, and
the reasons a step can stop. -/

namespace Sys2Proof.Machine

/-- The states of the receiver (10_state.md R21). -/
inductive RxState where
  | idle | start | data | stop | full | error
  deriving DecidableEq, Repr

/-- The states of the transmitter (10_state.md R27). -/
inductive TxState where
  | idle | start | data | stop
  deriving DecidableEq, Repr

/-- The states of the decoder (10_state.md R33). -/
inductive CobsState where
  | awaitLen | inBlock
  deriving DecidableEq, Repr

/-- The registers of the receiver (10_state.md R21 to R24). A timer is a natural number with the range
`0 .. D-1` as an invariant (log 8). -/
structure Rx where
  state : RxState
  timer : Nat
  bitno : BitVec 3
  shreg : Octet
  deriving DecidableEq, Repr

/-- The registers of the transmitter (10_state.md R27 to R31). `o` is the line; `true` is high. -/
structure Tx where
  state : TxState
  timer : Nat
  bitno : BitVec 3
  shreg : Octet
  o : Bool
  deriving DecidableEq, Repr

/-- The registers of the decoder (10_state.md R33 to R37). -/
structure Cobs where
  state : CobsState
  len : Octet
  cnt : Octet
  zp : Bool
  oData : Octet
  oRdy : Bool
  deriving DecidableEq, Repr

/-- The registers of the restrider (10_state.md R39 to R41). `chunks[i]` is the `i`-th entry of the list; that
there are `K` of them is an invariant. -/
structure Rs where
  idx : Nat
  chunks : List Octet
  done : Bool
  deriving DecidableEq, Repr

/-- The state of the whole hardware (10_state.md R20), with its construction-time parameters (00_scope.md R9)
and the model's own account of the inputs to come. -/
structure State where
  rx : Rx
  tx : Tx
  cobs : Cobs
  rs : Rs
  /-- Fixed at construction; no operation writes it. -/
  params : Params
  /-- The input levels still to come, the head being this tick's: the program of 00_scope.md R5. The model's own
  field (log 3). -/
  stimulus : List Inputs
  /-- The index of this tick's free inputs, read when the stimulus is used up. The model's own field (log 3). -/
  tick : Nat
  deriving DecidableEq, Repr

/-- Why the machine stops with a fault. -/
inductive Fault where
  /-- Raised by `COBS.LEN.ZERO`: a COBS length byte `0x00`. The spec gives no next state and names this
  model-level fault (43_cobs_decoder.md R166; 93_implementation_defined.md U1). Safe: the hardware goes on, the
  model stops. -/
  | cobsZeroLength
  deriving DecidableEq, Repr

/-- Why there is no meaning for a step. -/
inductive Refusal where
  /-- Raised by an arm of `exec` whose operation has no meaning yet; no arm raises it. Safe. -/
  | notModelled (mnemonic : String)
  /-- Raised by `step` where a machine's selector names no operation (30_encoding.md R95). No state has such a
  selector, so no step raises it. Safe. -/
  | reservedSelector
  deriving DecidableEq, Repr

/-- The outcome of an operation or of a step. -/
abbrev Result := Host.Outcome State Fault Refusal

/-- The values that full-pipeline initialisation leaves in the data registers: 'unspecified', any value of its
width, drawn once (10_state.md R50). -/
structure DataDraw where
  rxShreg : Octet
  txShreg : Octet
  cobsLen : Octet
  oData : Octet
  chunks : List Octet
  deriving DecidableEq, Repr

/-- The draw of all zeros, which 10_state.md R50 allows a simulator. -/
def DataDraw.zero : DataDraw :=
  { rxShreg := 0, txShreg := 0, cobsLen := 0, oData := 0, chunks := [] }

/-- The first `k` octets of a list, with zeros after its end. -/
def fitChunks : Nat → List Octet → List Octet
  | 0, _ => []
  | k + 1, [] => 0 :: fitChunks k []
  | k + 1, c :: cs => c :: fitChunks k cs

/-- The state after full-pipeline initialisation (10_state.md R49, R50; 70_reset_and_hazards.md R240, R241), for
any parameters, any draw of the data registers and any stimulus. -/
def State.initial (p : Params) (draw : DataDraw) (stimulus : List Inputs) : State :=
  { rx := { state := .idle, timer := 0, bitno := 0, shreg := draw.rxShreg }
    tx := { state := .idle, timer := 0, bitno := 0, shreg := draw.txShreg, o := true }
    cobs := { state := .awaitLen, len := draw.cobsLen, cnt := 0, zp := false, oData := draw.oData,
              oRdy := false }
    rs := { idx := 0, chunks := fitChunks p.k draw.chunks, done := false }
    params := p
    stimulus := stimulus
    tick := 0 }

/-- The machine right after reset (70_reset_and_hazards.md R241). The data registers hold zero: DESIGN CHOICE,
unsafe (log 5); the parameters are the open constants of Config (log 6); no stimulus is placed (log 3). -/
def State.reset : State := State.initial Config.params DataDraw.zero []

end Sys2Proof.Machine
end

