-- ==== Sys2Proof/Machine/Divider.lean ====
section
/-! DEFINITION. The Baud/Tick Divider: the per-tick counter, and the construction-time computation of the divisor
(40_divider.md), with the construction of a machine from the rates (70_reset_and_hazards.md R244). -/

namespace Sys2Proof.Machine

/-- `tick_down(t, D)`, the next value of a bit-timing counter that is not reloaded (40_divider.md R103). -/
def tickDown (t d : Nat) : Nat := if t = 0 then d - 1 else t - 1

/-- `floor(D / 2)`, one half of the bit period (40_divider.md R106, decision D7). -/
def halfPeriod (d : Nat) : Nat := d / 2

/-- How `round` treats an exact half: open in the source, a parameter (93_implementation_defined.md U7). -/
inductive TieRule where
  | toEven | up | down
  deriving DecidableEq, Repr

/-- Nearest integer to `q`; an exact half goes by the tie rule (40_divider.md R102). -/
def roundNearest (tie : TieRule) (q : ℚ) : Int :=
  let f := q.floor
  let r := q - f
  if r < 1 / 2 then f
  else if 1 / 2 < r then f + 1
  else
    match tie with
    | .toEven => if f % 2 = 0 then f else f + 1
    | .up => f + 1
    | .down => f

/-- Why the hardware must not be built (40_divider.md R101, error E3 of 60_exceptions.md R210). Not a state of
the hardware. -/
inductive ConfigurationError where
  /-- `D < 1`: target rate too high relative to base rate. -/
  | targetRateTooHigh
  /-- The frequency error exceeds `max_ppm`. -/
  | frequencyError
  deriving DecidableEq, Repr

/-- `error_ppm`, positive when the realised rate is faster than the target (40_divider.md R101). -/
def errorPpm (baseRate targetRate : ℚ) (d : Int) : ℚ :=
  1000000 * (baseRate / d - targetRate) / targetRate

/-- The checks of 40_divider.md R101 on a rounded quotient, in their order; equality passes, and without a
`max_ppm` only the first is made. -/
def checkDivisor (baseRate targetRate : ℚ) (maxPpm : Option ℚ) (d : Int) :
    Except ConfigurationError Nat :=
  if d < 1 then .error .targetRateTooHigh
  else
    match maxPpm with
    | none => .ok d.toNat
    | some m => if m < |errorPpm baseRate targetRate d| then .error .frequencyError else .ok d.toNat

/-- `div_config` under a tie rule (40_divider.md R100 to R102). The rates are positive numbers (R9). -/
def divConfigWith (tie : TieRule) (baseRate targetRate : ℚ) (maxPpm : Option ℚ) :
    Except ConfigurationError Nat :=
  checkDivisor baseRate targetRate maxPpm (roundNearest tie (baseRate / targetRate))

/-- `div_config(base_rate, target_rate, max_ppm)`, ties to the even integer (40_divider.md R102, log 12). -/
def divConfig (baseRate targetRate : ℚ) (maxPpm : Option ℚ) : Except ConfigurationError Nat :=
  divConfigWith .toEven baseRate targetRate maxPpm

/-- Bring-up (70_reset_and_hazards.md R244): `div_config`, then full-pipeline initialisation; a configuration
error prevents the hardware from ever starting (60_exceptions.md R214). One divisor serves RX and TX
(00_scope.md R9). -/
def State.construct (baseRate targetRate : ℚ) (maxPpm : Option ℚ) (k : Nat) (wiring : Wiring)
    (draw : DataDraw) (stimulus : List Inputs) : Except ConfigurationError State :=
  match divConfig baseRate targetRate maxPpm with
  | .error e => .error e
  | .ok d => .ok (State.initial { dRx := d, dTx := d, k := k, wiring := wiring } draw stimulus)

end Sys2Proof.Machine
end

