-- ==== Sys2Proof/Machine/Flags.lean ====
section
/-! DEFINITION. Every flag, strobe and output: functions of the registers alone (00_scope.md R13, 10_state.md R44),
and the conditions on counters and values that the selectors read (30_encoding.md R91 to R94). -/

namespace Sys2Proof.Machine

/-- `rx_stb = (rx_timer == 0)` (40_divider.md R104). -/
def State.rxStb (s : State) : Bool := s.rx.timer == 0

/-- `tx_stb = (tx_timer == 0)` (40_divider.md R104). -/
def State.txStb (s : State) : Bool := s.tx.timer == 0

/-- `rx_ready = (rx_state == FULL)` (41_uart_rx.md R127). -/
def State.rxReady (s : State) : Bool := s.rx.state == .full

/-- `rx_err = (rx_state == ERROR)` (41_uart_rx.md R127). -/
def State.rxErr (s : State) : Bool := s.rx.state == .error

/-- `rx_data = rx_shreg` (41_uart_rx.md R127); the received octet only while `rx_ready` is 1 (10_state.md R25). -/
def State.rxData (s : State) : Octet := s.rx.shreg

/-- `tx_o`, the line output register (42_uart_tx.md R152). -/
def State.txO (s : State) : Bool := s.tx.o

/-- `tx_ack = (tx_state == IDLE)` (42_uart_tx.md R152). -/
def State.txAck (s : State) : Bool := s.tx.state == .idle

/-- `o_rdy`, the decoder's ready strobe (43_cobs_decoder.md R169). -/
def State.oRdy (s : State) : Bool := s.cobs.oRdy

/-- `o_data`, the decoder's output byte (43_cobs_decoder.md R169). -/
def State.oData (s : State) : Octet := s.cobs.oData

/-- `done` (44_restrider.md R186). -/
def State.done (s : State) : Bool := s.rs.done

/-- The number `chunks[0] + 2^8 chunks[1] + ...` (30_encoding.md R87). -/
def wordValue : List Octet → Nat
  | [] => 0
  | c :: cs => c.toNat + 256 * wordValue cs

/-- `out_word = { chunks[K-1], ..., chunks[0] }`, in every tick (44_restrider.md R186; 90_conflicts.md C2). -/
def State.outWord (s : State) : BitVec (8 * s.params.k) :=
  BitVec.ofNat (8 * s.params.k) (wordValue s.rs.chunks)

/-- The last data bit of RX is due: `rx_bitno == 7` (30_encoding.md R91). -/
def State.rxLast (s : State) : Bool := s.rx.bitno == 7

/-- The last data bit of TX is due: `tx_bitno == 7` (30_encoding.md R92). -/
def State.txLast (s : State) : Bool := s.tx.bitno == 7

/-- `cobs_cnt + 1 == cobs_len - 1`, in ordinary integers (30_encoding.md R93). -/
def State.cobsLast (s : State) : Bool := (s.cobs.cnt.toNat : Int) + 1 == (s.cobs.len.toNat : Int) - 1

/-- `rs_idx == K - 1` (30_encoding.md R94), in ordinary integers. -/
def State.rsLast (s : State) : Bool := s.rs.idx + 1 == s.params.k

/-- The value class of `i_data`: `00` when at least 2, `01` when 1, `10` when 0 (30_encoding.md R93). -/
def valueClass (b : Octet) : BitVec 2 := if b = 0 then 2 else if b = 1 then 1 else 0

/-- The code of `rx_state` in the selector (30_encoding.md R91). -/
def RxState.code : RxState → BitVec 3
  | .idle => 0
  | .start => 1
  | .data => 2
  | .stop => 3
  | .full => 4
  | .error => 5

/-- The code of `tx_state` in the selector (30_encoding.md R92). -/
def TxState.code : TxState → BitVec 3
  | .idle => 0
  | .start => 1
  | .data => 2
  | .stop => 3

/-- The code of `cobs_state` in the selector (30_encoding.md R93). -/
def CobsState.code : CobsState → BitVec 3
  | .awaitLen => 0
  | .inBlock => 1

end Sys2Proof.Machine
end

