-- ==== Sys2Proof/Machine/Operands.lean ====
section
/-! DEFINITION. The operand forms: the input signals each machine samples in a tick. A signal is what the
embedding system drives or, where machines are wired together, another machine's output in the same tick
(45_pipeline.md R197, R199, R204; 42_uart_tx.md R155). -/

namespace Sys2Proof.Machine

/-- What the embedding system drives `n` ticks from now: the stimulus, then free values (log 3). -/
def State.inputsAt (s : State) (n : Nat) : Inputs :=
  (s.stimulus[n]?).getD (Config.environment (s.tick + n))

/-- What the embedding system drives in this tick. -/
def State.driven (s : State) : Inputs :=
  match s.stimulus with
  | [] => Config.environment s.tick
  | x :: _ => x

/-- The line into RX: driven, or `tx_o` in loop-back (42_uart_tx.md R155). -/
def State.rxI (s : State) : Bool := if s.params.wiring.txToRx then s.txO else s.driven.rxI

/-- `rx_ack`: driven, or tied to 1 in the pipeline (45_pipeline.md R197). -/
def State.rxAck (s : State) : Bool := if s.params.wiring.rxToCobs then true else s.driven.rxAck

/-- `rx_rst` (10_state.md R26). -/
def State.rxRst (s : State) : Bool := s.driven.rxRst

/-- `tx_rdy` (10_state.md R32). -/
def State.txRdy (s : State) : Bool := s.driven.txRdy

/-- `tx_data` (10_state.md R32). -/
def State.txData (s : State) : Octet := s.driven.txData

/-- `tx_rst` (10_state.md R32). -/
def State.txRst (s : State) : Bool := s.driven.txRst

/-- `i_rdy`: driven, or `rx_ready` (45_pipeline.md R197). -/
def State.iRdy (s : State) : Bool := if s.params.wiring.rxToCobs then s.rxReady else s.driven.iRdy

/-- `i_data`: driven, or `rx_data` (45_pipeline.md R197). -/
def State.iData (s : State) : Octet := if s.params.wiring.rxToCobs then s.rxData else s.driven.iData

/-- `i_latch`: driven, or `o_rdy` (45_pipeline.md R199). -/
def State.iLatch (s : State) : Bool := if s.params.wiring.cobsToRs then s.oRdy else s.driven.iLatch

/-- `rs_data`: driven, or `o_data` (45_pipeline.md R199). -/
def State.rsData (s : State) : Octet := if s.params.wiring.cobsToRs then s.oData else s.driven.rsData

/-- `out_read_ack` (10_state.md R42). -/
def State.outReadAck (s : State) : Bool := s.driven.outReadAck

end Sys2Proof.Machine
end

