-- ==== Sys2Proof/Machine/Ops.lean ====
section
/-! DEFINITION. The named operations over the registers, shared by the meanings: register updates, the shifts, the
bit counters, entering and leaving the error state, the decoder's emissions, the restrider's writes. -/

namespace Sys2Proof.Machine

/-- Write the registers of RX. -/
def State.setRx (s : State) (r : Rx) : State := { s with rx := r }

/-- Write the registers of TX. -/
def State.setTx (s : State) (t : Tx) : State := { s with tx := t }

/-- Write the registers of COBS. -/
def State.setCobs (s : State) (c : Cobs) : State := { s with cobs := c }

/-- Write the registers of RS. -/
def State.setRs (s : State) (r : Rs) : State := { s with rs := r }

/-- `{ b, v[7:1] }`: the octet moved one place toward bit 0 with `b` entering at bit 7 (00_scope.md R11). -/
def pushHigh (b : Bool) (v : Octet) : Octet := BitVec.cons b (v.extractLsb' 1 7)

/-- Go to a state with the timer running on: `rx_timer <- tick_down(rx_timer, D)` (40_divider.md R103). -/
def Rx.goTo (d : Nat) (st : RxState) (r : Rx) : Rx :=
  { r with state := st, timer := tickDown r.timer d }

/-- Shift a sample into the shift register and count it modulo 8 (41_uart_rx.md R118, R119; 90_conflicts.md
C3). -/
def Rx.takeSample (b : Bool) (r : Rx) : Rx :=
  { r with shreg := pushHigh b r.shreg, bitno := r.bitno + 1 }

/-- TAKING the receiver's error, E1 or E2: only the state changes, the timer goes on counting, nothing is saved
(60_exceptions.md R219). -/
def Rx.enterError (d : Nat) (r : Rx) : Rx := r.goTo d .error

/-- LEAVING the error state, and every reset of RX: the initial state, with the shift register kept
(60_exceptions.md R220; 41_uart_rx.md R112). -/
def Rx.reinit (r : Rx) : Rx := { r with state := .idle, timer := 0, bitno := 0 }

/-- Go to a state with the timer running on (40_divider.md R103). -/
def Tx.goTo (d : Nat) (st : TxState) (t : Tx) : Tx :=
  { t with state := st, timer := tickDown t.timer d }

/-- Drive the line (10_state.md R31). -/
def Tx.drive (b : Bool) (t : Tx) : Tx := { t with o := b }

/-- Drive bit 0 of the shift register, shift a zero into its high position and count modulo 8 (42_uart_tx.md
R148, R149). -/
def Tx.driveBit (t : Tx) : Tx :=
  { t with o := t.shreg.getLsbD 0, shreg := pushHigh false t.shreg, bitno := t.bitno + 1 }

/-- The reset of TX: the initial state with the line high, the shift register kept (42_uart_tx.md R142). -/
def Tx.reinit (t : Tx) : Tx := { t with state := .idle, timer := 0, bitno := 0, o := true }

/-- Show a byte for one tick (43_cobs_decoder.md R167, R169). -/
def Cobs.emit (b : Octet) (c : Cobs) : Cobs := { c with oData := b, oRdy := true }

/-- Show no byte; `o_data` keeps its value (43_cobs_decoder.md R162). -/
def Cobs.silent (c : Cobs) : Cobs := { c with oRdy := false }

/-- `emit_pending_zero()` (43_cobs_decoder.md R165; 90_conflicts.md C1). -/
def Cobs.emitPendingZero (c : Cobs) : Cobs := if c.zp then c.emit 0 else c.silent

/-- `chunks[i] <- b` (44_restrider.md R183, R184; 10_state.md R46). -/
def Rs.store (i : Nat) (b : Octet) (r : Rs) : Rs := { r with chunks := r.chunks.set i b }

end Sys2Proof.Machine
end

