-- ==== Sys2Proof/Machine/Cobs.lean ====
section
/-! DEFINITION. The meanings of the COBS operations (43_cobs_decoder.md R162 to R168). -/

namespace Sys2Proof.Machine

/-- `COBS.IDLE` (43_cobs_decoder.md R162). -/
def execCobsIdle (s : State) : Result := .next (s.setCobs s.cobs.silent)

/-- `COBS.LEN.ONE` (43_cobs_decoder.md R163): a block with no data bytes, complete at once. -/
def execCobsLenOne (s : State) : Result :=
  .next (s.setCobs { s.cobs.emitPendingZero with
    len := 1, cnt := 0, zp := true, state := .awaitLen })

/-- `COBS.LEN.N` (43_cobs_decoder.md R164). -/
def execCobsLenN (s : State) : Result :=
  .next (s.setCobs { s.cobs.emitPendingZero with
    len := s.iData, cnt := 0, zp := false, state := .inBlock })

/-- `COBS.LEN.ZERO` (43_cobs_decoder.md R166): `raise CobsZeroLength`. The spec forbids picking a next state. -/
def execCobsLenZero (_s : State) : Result := .fault .cobsZeroLength

/-- `COBS.DATA.MID` (43_cobs_decoder.md R167). -/
def execCobsDataMid (s : State) : Result :=
  .next (s.setCobs { s.cobs.emit s.iData with cnt := s.cobs.cnt + 1, state := .inBlock })

/-- `COBS.DATA.LAST` (43_cobs_decoder.md R168): the block is complete, and owes a zero unless `L = 255`. -/
def execCobsDataLast (s : State) : Result :=
  .next (s.setCobs { s.cobs.emit s.iData with
    cnt := 0, zp := s.cobs.len != 255, state := .awaitLen })

end Sys2Proof.Machine
end

