-- ==== Sys2Proof/Machine/Rs.lean ====
section
/-! DEFINITION. The meanings of the RS operations (44_restrider.md R182 to R185). -/

namespace Sys2Proof.Machine

/-- `RS.HOLD` (44_restrider.md R182): no register changes. -/
def execRsHold (s : State) : Result := .next (s.setRs s.rs)

/-- `RS.WRITE.MID` (44_restrider.md R183). -/
def execRsWriteMid (s : State) : Result :=
  .next (s.setRs { s.rs.store s.rs.idx s.rsData with idx := s.rs.idx + 1, done := false })

/-- `RS.WRITE.LAST` (44_restrider.md R184): the word is complete. -/
def execRsWriteLast (s : State) : Result :=
  .next (s.setRs { s.rs.store (s.params.k - 1) s.rsData with idx := 0, done := true })

/-- `RS.ACK` (44_restrider.md R185): the flag is cleared, the word is not. -/
def execRsAck (s : State) : Result := .next (s.setRs { s.rs with done := false })

end Sys2Proof.Machine
end

