-- ==== Sys2Proof/Machine/Rx.lean ====
section
/-! DEFINITION. The meanings of the RX operations (41_uart_rx.md R112 to R126). A meaning is the 'Does' of its rule;
the 'Selected when' of the rule is the selector of Machine/Select.lean. -/

namespace Sys2Proof.Machine

/-- `RX.RESET` (41_uart_rx.md R112). -/
def execRxReset (s : State) : Result := .next (s.setRx s.rx.reinit)

/-- `RX.IDLE.WAIT` (41_uart_rx.md R113). -/
def execRxIdleWait (s : State) : Result := .next (s.setRx (s.rx.goTo s.params.dRx .idle))

/-- `RX.IDLE.DETECT` (41_uart_rx.md R114). -/
def execRxIdleDetect (s : State) : Result :=
  .next (s.setRx { s.rx with state := .start, timer := halfPeriod s.params.dRx })

/-- `RX.START.WAIT` (41_uart_rx.md R115). -/
def execRxStartWait (s : State) : Result := .next (s.setRx (s.rx.goTo s.params.dRx .start))

/-- `RX.START.GO` (41_uart_rx.md R116): the line is not looked at. -/
def execRxStartGo (s : State) : Result := .next (s.setRx (s.rx.goTo s.params.dRx .data))

/-- `RX.DATA.WAIT` (41_uart_rx.md R117). -/
def execRxDataWait (s : State) : Result := .next (s.setRx (s.rx.goTo s.params.dRx .data))

/-- `RX.DATA.SHIFT` (41_uart_rx.md R118). -/
def execRxDataShift (s : State) : Result :=
  .next (s.setRx ((s.rx.takeSample s.rxI).goTo s.params.dRx .data))

/-- `RX.DATA.LAST` (41_uart_rx.md R119): the eighth sample; the counter goes from 7 to 0. -/
def execRxDataLast (s : State) : Result :=
  .next (s.setRx { (s.rx.takeSample s.rxI).goTo s.params.dRx .stop with bitno := 0 })

/-- `RX.STOP.WAIT` (41_uart_rx.md R120). -/
def execRxStopWait (s : State) : Result := .next (s.setRx (s.rx.goTo s.params.dRx .stop))

/-- `RX.STOP.OK` (41_uart_rx.md R121). -/
def execRxStopOk (s : State) : Result := .next (s.setRx (s.rx.goTo s.params.dRx .full))

/-- `RX.STOP.FERR` (41_uart_rx.md R122): the framing error E1. -/
def execRxStopFerr (s : State) : Result := .next (s.setRx (s.rx.enterError s.params.dRx))

/-- `RX.FULL.ACK` (41_uart_rx.md R123). -/
def execRxFullAck (s : State) : Result := .next (s.setRx (s.rx.goTo s.params.dRx .idle))

/-- `RX.FULL.OVERRUN` (41_uart_rx.md R124; 90_conflicts.md C4): the overrun E2. -/
def execRxFullOverrun (s : State) : Result := .next (s.setRx (s.rx.enterError s.params.dRx))

/-- `RX.FULL.HOLD` (41_uart_rx.md R125). -/
def execRxFullHold (s : State) : Result := .next (s.setRx (s.rx.goTo s.params.dRx .full))

/-- `RX.ERROR.HOLD` (41_uart_rx.md R126). -/
def execRxErrorHold (s : State) : Result := .next (s.setRx (s.rx.goTo s.params.dRx .error))

end Sys2Proof.Machine
end

