-- ==== Sys2Proof/Machine/Tx.lean ====
section
/-! DEFINITION. The meanings of the TX operations (42_uart_tx.md R142 to R151). -/

namespace Sys2Proof.Machine

/-- `TX.RESET` (42_uart_tx.md R142). -/
def execTxReset (s : State) : Result := .next (s.setTx s.tx.reinit)

/-- `TX.IDLE.HOLD` (42_uart_tx.md R143): the line is held high. -/
def execTxIdleHold (s : State) : Result :=
  .next (s.setTx ((s.tx.drive true).goTo s.params.dTx .idle))

/-- `TX.IDLE.LOAD` (42_uart_tx.md R144): latch the octet, reload the timer with `D - 1` (decision D8). -/
def execTxIdleLoad (s : State) : Result :=
  .next (s.setTx { s.tx.drive true with
    shreg := s.txData, timer := s.params.dTx - 1, state := .start })

/-- `TX.START.WAIT` (42_uart_tx.md R145). -/
def execTxStartWait (s : State) : Result := .next (s.setTx (s.tx.goTo s.params.dTx .start))

/-- `TX.START.DRIVE` (42_uart_tx.md R146): the start bit. -/
def execTxStartDrive (s : State) : Result :=
  .next (s.setTx ((s.tx.drive false).goTo s.params.dTx .data))

/-- `TX.DATA.WAIT` (42_uart_tx.md R147). -/
def execTxDataWait (s : State) : Result := .next (s.setTx (s.tx.goTo s.params.dTx .data))

/-- `TX.DATA.SHIFT` (42_uart_tx.md R148). -/
def execTxDataShift (s : State) : Result :=
  .next (s.setTx (s.tx.driveBit.goTo s.params.dTx .data))

/-- `TX.DATA.LAST` (42_uart_tx.md R149): the eighth bit; the counter goes from 7 to 0. -/
def execTxDataLast (s : State) : Result :=
  .next (s.setTx { s.tx.driveBit.goTo s.params.dTx .stop with bitno := 0 })

/-- `TX.STOP.WAIT` (42_uart_tx.md R150). -/
def execTxStopWait (s : State) : Result := .next (s.setTx (s.tx.goTo s.params.dTx .stop))

/-- `TX.STOP.DRIVE` (42_uart_tx.md R151): the stop level, and back to IDLE. -/
def execTxStopDrive (s : State) : Result :=
  .next (s.setTx ((s.tx.drive true).goTo s.params.dTx .idle))

end Sys2Proof.Machine
end

