-- ==== Sys2Proof/Machine/Dispatch.lean ====
section
/-! DEFINITION. The dispatch of an operation to its meaning, one arm per constructor of Instr. -/

namespace Sys2Proof.Machine
open Sys2Proof

-- The fields of an operation say which selector selected it; its operands are the signals of the tick.
def exec (i : Instr) (s : State) : Host.Outcome State Fault Refusal :=
  match i with
  | .rxReset _ _ _ _ _ => Sys2Proof.Machine.execRxReset s
  | .rxIdleWait _ _ _ => Sys2Proof.Machine.execRxIdleWait s
  | .rxIdleDetect _ _ _ => Sys2Proof.Machine.execRxIdleDetect s
  | .rxStartWait _ _ _ => Sys2Proof.Machine.execRxStartWait s
  | .rxStartGo _ _ _ => Sys2Proof.Machine.execRxStartGo s
  | .rxDataWait _ _ _ => Sys2Proof.Machine.execRxDataWait s
  | .rxDataShift _ _ => Sys2Proof.Machine.execRxDataShift s
  | .rxDataLast _ _ => Sys2Proof.Machine.execRxDataLast s
  | .rxStopWait _ _ _ => Sys2Proof.Machine.execRxStopWait s
  | .rxStopOk _ _ => Sys2Proof.Machine.execRxStopOk s
  | .rxStopFerr _ _ => Sys2Proof.Machine.execRxStopFerr s
  | .rxFullAck _ _ _ => Sys2Proof.Machine.execRxFullAck s
  | .rxFullOverrun _ _ => Sys2Proof.Machine.execRxFullOverrun s
  | .rxFullHold _ _ => Sys2Proof.Machine.execRxFullHold s
  | .rxErrorHold _ _ _ _ => Sys2Proof.Machine.execRxErrorHold s
  | .txReset _ _ _ _ => Sys2Proof.Machine.execTxReset s
  | .txIdleHold _ _ => Sys2Proof.Machine.execTxIdleHold s
  | .txIdleLoad _ _ => Sys2Proof.Machine.execTxIdleLoad s
  | .txStartWait _ _ => Sys2Proof.Machine.execTxStartWait s
  | .txStartDrive _ _ => Sys2Proof.Machine.execTxStartDrive s
  | .txDataWait _ _ => Sys2Proof.Machine.execTxDataWait s
  | .txDataShift _ => Sys2Proof.Machine.execTxDataShift s
  | .txDataLast _ => Sys2Proof.Machine.execTxDataLast s
  | .txStopWait _ _ => Sys2Proof.Machine.execTxStopWait s
  | .txStopDrive _ _ => Sys2Proof.Machine.execTxStopDrive s
  | .cobsIdle _ _ _ => Sys2Proof.Machine.execCobsIdle s
  | .cobsLenOne _ => Sys2Proof.Machine.execCobsLenOne s
  | .cobsLenN _ => Sys2Proof.Machine.execCobsLenN s
  | .cobsLenZero _ => Sys2Proof.Machine.execCobsLenZero s
  | .cobsDataMid _ => Sys2Proof.Machine.execCobsDataMid s
  | .cobsDataLast _ => Sys2Proof.Machine.execCobsDataLast s
  | .rsHold _ => Sys2Proof.Machine.execRsHold s
  | .rsWriteMid _ => Sys2Proof.Machine.execRsWriteMid s
  | .rsWriteLast _ => Sys2Proof.Machine.execRsWriteLast s
  | .rsAck _ => Sys2Proof.Machine.execRsAck s

end Sys2Proof.Machine
end

