-- ==== Sys2Proof/Machine/Select.lean ====
section
/-! DEFINITION. The selector each machine computes in a tick (30_encoding.md R91 to R94), the operation it selects,
and the commit of the four operations of a tick (20_memory.md R73). -/

namespace Sys2Proof.Machine

/-- The selector of RX (30_encoding.md R91). -/
def selectorRx (s : State) : Selector :=
  { m := .rx, r := s.rxRst, s := s.rx.state.code, p := s.rxStb, q := s.rxI, a := s.rxAck,
    l := s.rxLast, v := 0 }

/-- The selector of TX (30_encoding.md R92). -/
def selectorTx (s : State) : Selector :=
  { m := .tx, r := s.txRst, s := s.tx.state.code, p := s.txStb, q := s.txRdy, a := false,
    l := s.txLast, v := 0 }

/-- The selector of COBS (30_encoding.md R93). -/
def selectorCobs (s : State) : Selector :=
  { m := .cobs, r := false, s := s.cobs.state.code, p := s.iRdy, q := false, a := false,
    l := s.cobsLast, v := valueClass s.iData }

/-- The selector of RS (30_encoding.md R94). -/
def selectorRs (s : State) : Selector :=
  { m := .rs, r := false, s := 0, p := s.iLatch, q := false, a := s.outReadAck, l := s.rsLast,
    v := 0 }

/-- The selector of a machine in this tick (30_encoding.md R90). -/
def selector (m : Agent) (s : State) : Selector :=
  match m with
  | .rx => selectorRx s
  | .tx => selectorTx s
  | .cobs => selectorCobs s
  | .rs => selectorRs s

/-- The operation a machine performs in this tick: the one its selector selects (30_encoding.md R90). -/
def fetch (m : Agent) (s : State) : Option Instr := (decodeSelector (selector m s)).toOption

/-- The state at the next tick: each machine's registers from its own operation, and the inputs of the next tick. -/
def State.latch (s : State) (rx : Rx) (tx : Tx) (cobs : Cobs) (rs : Rs) : State :=
  { rx := rx, tx := tx, cobs := cobs, rs := rs, params := s.params, stimulus := s.stimulus.tail,
    tick := s.tick + 1 }

/-- Two-phase update: the outcomes of the four operations, each computed from the old state, commit together
(20_memory.md R73; 00_scope.md R12). The first stop, if there is one, stops the hardware. -/
def commit (s : State) (rx tx cobs rs : Result) : Result :=
  match rx with
  | .fault f => .fault f
  | .refused r => .refused r
  | .next a =>
    match tx with
    | .fault f => .fault f
    | .refused r => .refused r
    | .next b =>
      match cobs with
      | .fault f => .fault f
      | .refused r => .refused r
      | .next c =>
        match rs with
        | .fault f => .fault f
        | .refused r => .refused r
        | .next d => .next (s.latch a.rx b.tx c.cobs d.rs)

/-- One tick (00_scope.md R8): every machine's operation is selected and computed from the same old state. -/
def tickOnce (s : State) : Result :=
  match fetch .rx s, fetch .tx s, fetch .cobs s, fetch .rs s with
  | some a, some b, some c, some d => commit s (exec a s) (exec b s) (exec c s) (exec d s)
  | _, _, _, _ => .refused .reservedSelector

/-- The state of RX a code names; the two reserved codes are refused by the decoder before. -/
def RxState.ofCode (c : BitVec 3) : RxState :=
  match c.toNat with
  | 0 => .idle
  | 1 => .start
  | 2 => .data
  | 3 => .stop
  | 4 => .full
  | _ => .error

/-- The state of TX a code names. -/
def TxState.ofCode (c : BitVec 3) : TxState :=
  match c.toNat with
  | 0 => .idle
  | 1 => .start
  | 2 => .data
  | _ => .stop

/-- The state of COBS a code names. -/
def CobsState.ofCode (c : BitVec 3) : CobsState :=
  match c.toNat with
  | 0 => .awaitLen
  | _ => .inBlock

/-- A byte of a value class (30_encoding.md R93). -/
def valueOfClass (v : BitVec 2) : Octet :=
  match v.toNat with
  | 0 => 2
  | 1 => 1
  | _ => 0

/-- A timer that reads zero or not, as asked, near the one given. -/
def timerFor (p : Bool) (t : Nat) : Nat := if p then 0 else if t = 0 then 1 else t

/-- A divisor under which a timer can read zero or not, as asked: with `D = 1` every tick is a strobe
(40_divider.md R103). -/
def divisorFor (p : Bool) (d : Nat) : Nat := if p then d else max d 2

/-- A bit counter that reads 7 or not, as asked, near the one given. -/
def bitnoFor (l : Bool) (n : BitVec 3) : BitVec 3 := if l then 7 else if n = 7 then 0 else n

/-- The inputs of this tick replaced, and every machine on its own inputs. -/
def State.withInputs (s : State) (x : Inputs) : State :=
  { s with stimulus := x :: s.stimulus.tail
           params := { s.params with wiring := Wiring.separate } }

/-- The state in which the machine a selector names has that selector in this tick: its registers and its inputs
are set to what the selector says, the other inputs are those of `Inputs.idle` (log 4). With `K = 1` no tick has
`l = 0` in RS, and with `K > rs_idx + 1` none has `l = 1`, so for RS the chunk count is set too. -/
def State.placeSelector (s : State) (x : Selector) : State :=
  match x.m with
  | .rx =>
    { s.withInputs { Inputs.idle with rxI := x.q, rxAck := x.a, rxRst := x.r } with
      rx := { s.rx with state := RxState.ofCode x.s, timer := timerFor x.p s.rx.timer
                        bitno := bitnoFor x.l s.rx.bitno }
      params := { s.params with wiring := Wiring.separate, dRx := divisorFor x.p s.params.dRx } }
  | .tx =>
    { s.withInputs { Inputs.idle with txRdy := x.q, txRst := x.r } with
      tx := { s.tx with state := TxState.ofCode x.s, timer := timerFor x.p s.tx.timer
                        bitno := bitnoFor x.l s.tx.bitno }
      params := { s.params with wiring := Wiring.separate, dTx := divisorFor x.p s.params.dTx } }
  | .cobs =>
    { s.withInputs { Inputs.idle with iRdy := x.p, iData := valueOfClass x.v } with
      cobs := { s.cobs with state := CobsState.ofCode x.s, cnt := 0
                            len := if x.l then 2 else 3 } }
  | .rs =>
    { s.withInputs { Inputs.idle with iLatch := x.p, outReadAck := x.a } with
      rs := { s.rs with
        chunks := fitChunks (if x.l then s.rs.idx + 1 else s.rs.idx + 2) s.rs.chunks }
      params := { s.params with wiring := Wiring.separate
                                k := if x.l then s.rs.idx + 1 else s.rs.idx + 2 } }

end Sys2Proof.Machine
end

