-- ==== Sys2Proof/Machine/Step.lean ====
section
/-! DEFINITION. The step of the whole hardware, one tick, and the placing of one operation as the next. -/

namespace Sys2Proof.Machine

/-- One step is one tick of all four machines (00_scope.md R8; 60_exceptions.md R223). -/
def step (s : State) : Host.Outcome State Fault Refusal := tickOnce s

/-- `s` with the operation of the selector word `w` placed where the next step selects it (log 4). A word that
selects no operation is not placed. -/
def State.withFetchWord (s : State) (nbits w : Nat) : State :=
  match decodeTableWord nbits w with
  | some i => s.placeSelector i.selector
  | none => s

end Sys2Proof.Machine
end

