-- ==== Sys2Proof/Machine/Format.lean ====
section
/-! DEFINITION. The data formats as functions: the UART frame (30_encoding.md R80), the COBS stream (R83, R84).
They describe what the machines parse and produce; no operation calls them. Each is a total function; outside the
domain its rule gives, its value is the model's choice (DESIGN CHOICE, log 19). -/

namespace Sys2Proof.Machine

/-- The level of a UART frame of the octet `b` in bit period `j`: start low, eight data bits least significant
first, then high (30_encoding.md R80). -/
def frameBit (b : Octet) (j : Nat) : Bool :=
  if j = 0 then false else if j ≤ 8 then b.getLsbD (j - 1) else true

/-- `FRAME(b)@D`: the level of the frame `n` ticks after the first tick of its start bit, and the idle level after
its stop bit (30_encoding.md R80, R97), for `d >= 1`. -/
def frameLevel (d : Nat) (b : Octet) (n : Nat) : Bool := frameBit b (n / d)

/-- The level, `n` ticks after the tick in which a receiver first sees it low, of a sender whose bit period is `p`
ticks and whose falling edge came `e` ticks before that tick's sampling instant (70_reset_and_hazards.md R259), for `p > 0`
and `e >= 0`. -/
def senderLevel (p e : ℚ) (b : Octet) (n : Nat) : Bool := frameBit b ((e + n) / p).floor.toNat

/-- The level of `tx_o`, `n` ticks after the tick that loads `b` (42_uart_tx.md R153), for `d >= 1`. -/
def txWaveform (d : Nat) (b : Octet) (n : Nat) : Bool :=
  if n ≤ d then true else frameLevel d b (n - d - 1)

/-- Whether the list is a concatenation of complete COBS blocks with no length byte `0x00` (30_encoding.md R83),
reading at most `fuel` blocks. -/
def completeBlocksIn : Nat → List Octet → Bool
  | _, [] => true
  | 0, _ :: _ => false
  | fuel + 1, len :: rest =>
    decide (1 ≤ len.toNat) && decide (len.toNat - 1 ≤ rest.length) &&
      completeBlocksIn fuel (rest.drop (len.toNat - 1))

/-- A concatenation of complete blocks (30_encoding.md R83); a list has at most as many blocks as bytes. -/
def completeBlocks (bytes : List Octet) : Bool := completeBlocksIn bytes.length bytes

/-- The loop of `decode_stream` (30_encoding.md R84) from a given pending zero: the bytes it puts out, and
whether a zero is still pending. The rule defines it for complete blocks with no length byte `0x00` only. On any
other list the value is the model's, no continuation of the decoder (93_implementation_defined.md U1, U2): a length
byte `0x00` counts as 1 and a truncated last block ends with the list. DESIGN CHOICE (log 19); nothing may lean on
it, and every statement has `completeBlocks` as a premise. -/
def decodeBlocksIn : Nat → Bool → List Octet → List Octet × Bool
  | _, zp, [] => ([], zp)
  | 0, zp, _ :: _ => ([], zp)
  | fuel + 1, zp, len :: rest =>
    let tail := decodeBlocksIn fuel (decide (len.toNat < 255)) (rest.drop (len.toNat - 1))
    ((if zp then [0] else []) ++ rest.take (len.toNat - 1) ++ tail.1, tail.2)

/-- `decode_stream` (30_encoding.md R84): the output bytes, and whether a zero is still pending. Meaningful where
`completeBlocks` holds; elsewhere the model's choice (log 19). -/
def decodeStream (bytes : List Octet) : List Octet × Bool :=
  decodeBlocksIn bytes.length false bytes

end Sys2Proof.Machine
end

