-- ==== Sys2Proof/Machine/Trace.lean ====
section
/-! DEFINITION. Runs of many ticks, and what an observer collects along one. -/

namespace Sys2Proof.Machine

/-- `n` ticks, stopping at the first fault or refusal. -/
def run : Nat → State → Result
  | 0, s => .next s
  | n + 1, s =>
    match step s with
    | .next t => run n t
    | .fault f => .fault f
    | .refused r => .refused r

/-- The bytes the decoder shows in the first `n` ticks: `o_data` in every tick with `o_rdy == 1`
(43_cobs_decoder.md R169, R170). -/
def shownBytes : Nat → State → List Octet
  | 0, _ => []
  | n + 1, s =>
    (if s.oRdy then [s.oData] else []) ++
      match step s with
      | .next t => shownBytes n t
      | _ => []

end Sys2Proof.Machine
end

