-- ==== Sys2Proof/Machine/Transition.lean ====
section
/-! DEFINITION. The four machines as pure functions from registers and inputs to registers (00_scope.md R19), written
from the transition graphs (41_uart_rx.md R110, 42_uart_tx.md R140, 43_cobs_decoder.md R160, 44_restrider.md R180).
`step` does not call them; that it is their synchronous product is a statement. -/

namespace Sys2Proof.Machine

/-- The transition graph of RX (41_uart_rx.md R110, R111). -/
def Rx.next (d : Nat) (line ack rst : Bool) (r : Rx) : Rx :=
  if rst then { state := .idle, timer := 0, bitno := 0, shreg := r.shreg }
  else
    let counted := { r with timer := tickDown r.timer d }
    match r.state with
    | .idle => if line then counted else { r with state := .start, timer := d / 2 }
    | .start => if r.timer = 0 then { counted with state := .data } else counted
    | .data =>
      if r.timer = 0 then
        { counted with
          shreg := pushHigh line r.shreg
          bitno := if r.bitno = 7 then 0 else r.bitno + 1
          state := if r.bitno = 7 then .stop else .data }
      else counted
    | .stop => if r.timer = 0 then { counted with state := if line then .full else .error } else counted
    | .full => { counted with state := if ack then .idle else if line then .full else .error }
    | .error => counted

/-- The transition graph of TX (42_uart_tx.md R140, R141). -/
def Tx.next (d : Nat) (rdy : Bool) (data : Octet) (rst : Bool) (t : Tx) : Tx :=
  if rst then { state := .idle, timer := 0, bitno := 0, shreg := t.shreg, o := true }
  else
    let counted := { t with timer := tickDown t.timer d }
    match t.state with
    | .idle =>
      if rdy then { t with shreg := data, timer := d - 1, state := .start, o := true }
      else { counted with o := true }
    | .start => if t.timer = 0 then { counted with o := false, state := .data } else counted
    | .data =>
      if t.timer = 0 then
        { counted with
          o := t.shreg.getLsbD 0
          shreg := pushHigh false t.shreg
          bitno := if t.bitno = 7 then 0 else t.bitno + 1
          state := if t.bitno = 7 then .stop else .data }
      else counted
    | .stop => if t.timer = 0 then { counted with o := true, state := .idle } else counted

/-- The transition graph of COBS (43_cobs_decoder.md R160, R161); `none` where the spec gives no next state. -/
def Cobs.next (rdy : Bool) (b : Octet) (c : Cobs) : Option Cobs :=
  if rdy then
    match c.state with
    | .awaitLen =>
      if b = 0 then none
      else
        some { state := if b = 1 then .awaitLen else .inBlock
               len := b
               cnt := 0
               zp := b = 1
               oData := if c.zp then 0 else c.oData
               oRdy := c.zp }
    | .inBlock =>
      if c.cnt.toNat + 2 = c.len.toNat then
        some { c with oData := b, oRdy := true, cnt := 0, zp := c.len ≠ 255, state := .awaitLen }
      else some { c with oData := b, oRdy := true, cnt := c.cnt + 1 }
  else some { c with oRdy := false }

/-- The operations of RS (44_restrider.md R180, R181). -/
def Rs.next (k : Nat) (latch : Bool) (b : Octet) (ack : Bool) (r : Rs) : Rs :=
  if latch then
    if r.idx + 1 = k then { idx := 0, chunks := r.chunks.set r.idx b, done := true }
    else { idx := r.idx + 1, chunks := r.chunks.set r.idx b, done := false }
  else if ack then { r with done := false }
  else r

end Sys2Proof.Machine
end

