-- ==== Sys2Proof/Safety.lean ====
section
/-! DEFINITION. What the statements speak of: the invariants of 10_state.md R51 and what a consumer that obeys the
valid flags observes (10_state.md R50, 70_reset_and_hazards.md R260). -/

namespace Sys2Proof.Machine

/-- RX: the timer's range and the bit counter outside DATA (10_state.md R51, items 1, 2 and 7). -/
abbrev State.RxInv (s : State) : Prop :=
  s.rx.timer + 1 ≤ s.params.dRx ∧ (s.rx.state ≠ .data → s.rx.bitno = 0) ∧
    ¬(s.rxReady = true ∧ s.rxErr = true)

/-- TX: the timer's range, the bit counter outside DATA, the idle line (10_state.md R51, items 1, 2 and 6). -/
abbrev State.TxInv (s : State) : Prop :=
  s.tx.timer + 1 ≤ s.params.dTx ∧ (s.tx.state ≠ .data → s.tx.bitno = 0) ∧
    (s.tx.state = .idle → s.tx.o = true)

/-- COBS: inside a block (10_state.md R51, items 4 and 5), and the counter between blocks (R35). -/
abbrev State.CobsInv (s : State) : Prop :=
  (s.cobs.state = .inBlock →
    2 ≤ s.cobs.len.toNat ∧ s.cobs.cnt.toNat ≤ s.cobs.len.toNat - 2 ∧ s.cobs.zp = false) ∧
    (s.cobs.state = .awaitLen → s.cobs.cnt = 0)

/-- RS: the index's range (10_state.md R51, item 3) and the number of chunks (R40). -/
abbrev State.RsInv (s : State) : Prop :=
  s.rs.idx + 1 ≤ s.params.k ∧ s.rs.chunks.length = s.params.k

/-- The invariants of 10_state.md R51 that speak of one tick (items 1 to 7). -/
abbrev State.Inv (s : State) : Prop := s.RxInv ∧ s.TxInv ∧ s.CobsInv ∧ s.RsInv

/-- What a consumer that obeys the valid flags sees in a tick. -/
structure Observation where
  txO : Bool
  txAck : Bool
  rxReady : Bool
  rxErr : Bool
  oRdy : Bool
  done : Bool
  /-- `rx_data`, only while `rx_ready` is 1. -/
  rxData : Option Octet
  /-- `o_data`, only while `o_rdy` is 1. -/
  oData : Option Octet
  /-- `out_word` as a number, only while `done` is 1. -/
  outWord : Option Nat
  deriving DecidableEq, Repr

/-- The outputs of a tick with every value hidden that its flag does not make valid (70_reset_and_hazards.md R260;
93_implementation_defined.md U4, U5). -/
def State.observe (s : State) : Observation :=
  { txO := s.txO, txAck := s.txAck, rxReady := s.rxReady, rxErr := s.rxErr, oRdy := s.oRdy,
    done := s.done
    rxData := if s.rxReady then some s.rxData else none
    oData := if s.oRdy then some s.oData else none
    outWord := if s.done then some s.outWord.toNat else none }

end Sys2Proof.Machine
end

