-- ==== Sys2Proof/Certificates/Slice0/Obligations.lean ====
section
/-! DEFINITION. The statements for the provers. Each docstring names the rule of spec/ that the statement
formalises; OBLIGATIONS.json lists them. -/

open Sys2Proof Sys2Proof.Machine

/-! ### The selector and the opcode table (30_encoding.md R90 to R95) -/

/-- Decoding the encoding of a well-formed operation gives it back, as a word and as the host's table word:
no bit of an encoding is dropped (30_encoding.md R90 to R95). -/
def Obligations.DecodeEncodeRoundTrip : Prop :=
  ∀ i : Instr, i.wellFormed = true →
    decode (encode i) = .ok i ∧ decodeTableWord 16 (encode i).toNat = some i

/-- A word that decodes is the encoding of what it decodes to, which is well formed: an operation has one
selector for each choice of its free fields (30_encoding.md R90). -/
def Obligations.DecodedWordReencodes : Prop :=
  ∀ (w : SelectorWord) (i : Instr), decode w = .ok i → encode i = w ∧ i.wellFormed = true

/-- The rows of the opcode table select: a word decodes to an operation of row `n` exactly when it is not
reserved and matches row `n`, and then it matches no other row (30_encoding.md R90, R95: the operations are
pairwise disjoint and cover every selector a machine can produce). -/
def Obligations.OpcodeTableSelectsOneRow : Prop :=
  ∀ (w : SelectorWord) (n : Nat) (row : OpcodeRow), opcodeTable[n]? = some row →
    ((∃ i, decode w = .ok i ∧ i.rowIndex = n) ↔
      ((Selector.ofWord w).reserved = false ∧ row.matches w = true)) ∧
    ((Selector.ofWord w).reserved = false → row.matches w = true →
      ∀ (m : Nat) (other : OpcodeRow), opcodeTable[m]? = some other → other.matches w = true → m = n)

/-- R95 of 30_encoding.md: the reserved values are refused, no machine produces one, and there are 35
operations, 15 RX, 10 TX, 6 COBS and 4 RS. -/
def Obligations.ReservedSelectorsAreRefused : Prop :=
  (∀ w : SelectorWord, (Selector.ofWord w).reserved = true ↔ ∃ e, decode w = .error e) ∧
  (∀ (m : Agent) (s : State), (selector m s).reserved = false) ∧
  opcodeTable.length = 35 ∧
  (opcodeTable.filter fun r => r.pattern.extractLsb' 10 2 = Agent.code .rx).length = 15 ∧
  (opcodeTable.filter fun r => r.pattern.extractLsb' 10 2 = Agent.code .tx).length = 10 ∧
  (opcodeTable.filter fun r => r.pattern.extractLsb' 10 2 = Agent.code .cobs).length = 6 ∧
  (opcodeTable.filter fun r => r.pattern.extractLsb' 10 2 = Agent.code .rs).length = 4

/-- In every tick each machine performs exactly one operation, its own, and that operation's fields are the
state, the inputs and the conditions of the tick (30_encoding.md R90 to R94). -/
def Obligations.EveryTickSelectsOneOperation : Prop :=
  ∀ (m : Agent) (s : State), ∃ i : Instr,
    fetch m s = some i ∧ i.agent = m ∧ i.wellFormed = true ∧ i.selector = selector m s ∧
      decode (selector m s).toWord = .ok i

/-- A sanity check of words written out bit by bit from 30_encoding.md R91 to R94. -/
def Obligations.WrittenSelectorWordsDecode : Prop :=
  decode 0b00_0_010_1_1_0_0_00#12 = .ok (.rxDataShift true false) ∧
  decode 0b01_0_000_1_1_0_0_00#12 = .ok (.txIdleLoad true false) ∧
  decode 0b10_0_001_1_0_0_1_01#12 = .ok (.cobsDataLast 1) ∧
  decode 0b11_0_000_0_0_1_0_00#12 = .ok (.rsAck false)

/-! ### The step -/

/-- A step runs the decoded operations: where the selectors of the four machines decode to well-formed
operations, the step is the commit of the four, each executed in the old state; each machine's registers come
from its own operation, the parameters stay, and the inputs move on by one tick (00_scope.md R8, R12). That `commit`
stops all four machines where one operation stops is the model's choice, notes/assumptions/10.md. -/
def Obligations.StepRunsTheDecodedOperations : Prop :=
  ∀ (s : State) (a b c d : Instr),
    decode (selector .rx s).toWord = .ok a → decode (selector .tx s).toWord = .ok b →
    decode (selector .cobs s).toWord = .ok c → decode (selector .rs s).toWord = .ok d →
    step s = commit s (exec a s) (exec b s) (exec c s) (exec d s) ∧
    ∀ sa sb sc sd : State, exec a s = .next sa → exec b s = .next sb → exec c s = .next sc →
      exec d s = .next sd →
      step s = .next { rx := sa.rx, tx := sb.tx, cobs := sc.cobs, rs := sd.rs, params := s.params,
                       stimulus := s.stimulus.tail, tick := s.tick + 1 }

/-- One step of the hardware is the synchronous product of the four machines as pure functions of their own
registers and inputs, all reading old values (00_scope.md R19; 20_memory.md R73; 45_pipeline.md R204). Where the decoder's
graph has no next state, on a zero length byte, the step is the fault of the spec's decision D17 (43_cobs_decoder.md R160,
R166); that it stops all four machines is the model's choice, notes/assumptions/10.md. -/
def Obligations.StepIsTheSynchronousProduct : Prop :=
  ∀ s : State,
    step s =
      match Cobs.next s.iRdy s.iData s.cobs with
      | none => .fault .cobsZeroLength
      | some c =>
        .next { rx := Rx.next s.params.dRx s.rxI s.rxAck s.rxRst s.rx
                tx := Tx.next s.params.dTx s.txRdy s.txData s.txRst s.tx
                cobs := c
                rs := Rs.next s.params.k s.iLatch s.rsData s.outReadAck s.rs
                params := s.params
                stimulus := s.stimulus.tail
                tick := s.tick + 1 }

/-- The hardware goes on in every tick but one in which the decoder takes a zero length byte, and then the
model stops with `CobsZeroLength` (43_cobs_decoder.md R166; 93_implementation_defined.md U1). The stop is the spec's
decision D17; that it stops all four machines is the model's choice, notes/assumptions/10.md. -/
def Obligations.StepStopsOnlyOnZeroLength : Prop :=
  ∀ s : State,
    (step s = .fault .cobsZeroLength ↔
      (s.cobs.state = .awaitLen ∧ s.iRdy = true ∧ s.iData = 0)) ∧
    (¬(s.cobs.state = .awaitLen ∧ s.iRdy = true ∧ s.iData = 0) → ∃ t, step s = .next t)

/-- Placing an operation's word makes the next tick select that operation, from every state (the model's
choice, notes/assumptions/4.md; the selector is 30_encoding.md R90). -/
def Obligations.PlacedWordIsSelected : Prop :=
  ∀ (s : State) (i : Instr), i.wellFormed = true →
    fetch i.agent (s.withFetchWord 16 (encode i).toNat) = some i

/-- A register of machine X is written only by the operations of X, and no operation writes the parameters
(10_state.md R20; 00_scope.md R9). -/
def Obligations.MachinesOwnTheirRegisters : Prop :=
  ∀ (i : Instr) (s t : State), exec i s = .next t →
    (i.agent ≠ .rx → t.rx = s.rx) ∧ (i.agent ≠ .tx → t.tx = s.tx) ∧
    (i.agent ≠ .cobs → t.cobs = s.cobs) ∧ (i.agent ≠ .rs → t.rs = s.rs) ∧
    t.params = s.params ∧ t.stimulus = s.stimulus ∧ t.tick = s.tick

/-! ### The RX operations: when each is selected, what it does (41_uart_rx.md) -/

/-- R112 `RX.RESET`; that reset is a level sampled each tick with priority is the spec's decision D10. -/
def Obligations.RxResetReturnsToIdle : Prop :=
  ∀ s : State,
    ((∃ c p q a l, fetch .rx s = some (.rxReset c p q a l)) ↔ s.rxRst = true) ∧
    ∀ c p q a l, ∃ t, exec (.rxReset c p q a l) s = .next t ∧
      t = { s with rx := { s.rx with state := .idle, timer := 0, bitno := 0 } } ∧
      t.rxReady = false ∧ t.rxErr = false

/-- R113 `RX.IDLE.WAIT` and R114 `RX.IDLE.DETECT`; that the reload value is `floor(D / 2)` is the spec's decision D7
(notes/assumptions/13.md). -/
def Obligations.RxIdleWatchesTheLine : Prop :=
  ∀ s : State,
    ((∃ p a l, fetch .rx s = some (.rxIdleWait p a l)) ↔
      (s.rxRst = false ∧ s.rx.state = .idle ∧ s.rxI = true)) ∧
    (∀ p a l, ∃ t, exec (.rxIdleWait p a l) s = .next t ∧
      t = { s with rx := { s.rx with state := .idle, timer := tickDown s.rx.timer s.params.dRx } } ∧
      t.rxReady = false ∧ t.rxErr = false) ∧
    ((∃ p a l, fetch .rx s = some (.rxIdleDetect p a l)) ↔
      (s.rxRst = false ∧ s.rx.state = .idle ∧ s.rxI = false)) ∧
    (∀ p a l, ∃ t, exec (.rxIdleDetect p a l) s = .next t ∧
      t = { s with rx := { s.rx with state := .start, timer := s.params.dRx / 2 } } ∧
      t.rxReady = false ∧ t.rxErr = false)

/-- R115 `RX.START.WAIT` and R116 `RX.START.GO`; that the line is not looked at is the spec's decision D11
(notes/assumptions/13.md). -/
def Obligations.RxStartWaitsOneStrobe : Prop :=
  ∀ s : State,
    ((∃ q a l, fetch .rx s = some (.rxStartWait q a l)) ↔
      (s.rxRst = false ∧ s.rx.state = .start ∧ s.rx.timer ≠ 0)) ∧
    (∀ q a l, ∃ t, exec (.rxStartWait q a l) s = .next t ∧
      t = { s with rx := { s.rx with state := .start, timer := tickDown s.rx.timer s.params.dRx } } ∧
      t.rxReady = false ∧ t.rxErr = false) ∧
    ((∃ q a l, fetch .rx s = some (.rxStartGo q a l)) ↔
      (s.rxRst = false ∧ s.rx.state = .start ∧ s.rx.timer = 0)) ∧
    (∀ q a l, ∃ t, exec (.rxStartGo q a l) s = .next t ∧
      t = { s with rx := { s.rx with state := .data, timer := tickDown s.rx.timer s.params.dRx } } ∧
      t.rxReady = false ∧ t.rxErr = false)

/-- R117 `RX.DATA.WAIT`, R118 `RX.DATA.SHIFT` and R119 `RX.DATA.LAST`. The shift register as a number: the
sample at bit 7 and the old bits 7 to 1 moved one place down. -/
def Obligations.RxDataShiftsTheSampleIn : Prop :=
  ∀ s : State,
    ((∃ q a l, fetch .rx s = some (.rxDataWait q a l)) ↔
      (s.rxRst = false ∧ s.rx.state = .data ∧ s.rx.timer ≠ 0)) ∧
    (∀ q a l, ∃ t, exec (.rxDataWait q a l) s = .next t ∧
      t = { s with rx := { s.rx with state := .data, timer := tickDown s.rx.timer s.params.dRx } } ∧
      t.rxReady = false ∧ t.rxErr = false) ∧
    ((∃ q a, fetch .rx s = some (.rxDataShift q a)) ↔
      (s.rxRst = false ∧ s.rx.state = .data ∧ s.rx.timer = 0 ∧ s.rx.bitno ≠ 7)) ∧
    (∀ q a, ∃ t, exec (.rxDataShift q a) s = .next t ∧
      t = { s with rx :=
              { state := .data
                timer := tickDown s.rx.timer s.params.dRx
                bitno := s.rx.bitno + 1
                shreg := BitVec.ofNat 8 (s.rx.shreg.toNat / 2 + 128 * s.rxI.toNat) } } ∧
      t.rxReady = false ∧ t.rxErr = false) ∧
    ((∃ q a, fetch .rx s = some (.rxDataLast q a)) ↔
      (s.rxRst = false ∧ s.rx.state = .data ∧ s.rx.timer = 0 ∧ s.rx.bitno = 7)) ∧
    (∀ q a, ∃ t, exec (.rxDataLast q a) s = .next t ∧
      t = { s with rx :=
              { state := .stop
                timer := tickDown s.rx.timer s.params.dRx
                bitno := 0
                shreg := BitVec.ofNat 8 (s.rx.shreg.toNat / 2 + 128 * s.rxI.toNat) } } ∧
      t.rxReady = false ∧ t.rxErr = false)

/-- R120 `RX.STOP.WAIT`, R121 `RX.STOP.OK` and R122 `RX.STOP.FERR`. -/
def Obligations.RxStopChecksTheLine : Prop :=
  ∀ s : State,
    ((∃ q a l, fetch .rx s = some (.rxStopWait q a l)) ↔
      (s.rxRst = false ∧ s.rx.state = .stop ∧ s.rx.timer ≠ 0)) ∧
    (∀ q a l, ∃ t, exec (.rxStopWait q a l) s = .next t ∧
      t = { s with rx := { s.rx with state := .stop, timer := tickDown s.rx.timer s.params.dRx } } ∧
      t.rxReady = false ∧ t.rxErr = false) ∧
    ((∃ a l, fetch .rx s = some (.rxStopOk a l)) ↔
      (s.rxRst = false ∧ s.rx.state = .stop ∧ s.rx.timer = 0 ∧ s.rxI = true)) ∧
    (∀ a l, ∃ t, exec (.rxStopOk a l) s = .next t ∧
      t = { s with rx := { s.rx with state := .full, timer := tickDown s.rx.timer s.params.dRx } } ∧
      t.rxReady = true ∧ t.rxErr = false) ∧
    ((∃ a l, fetch .rx s = some (.rxStopFerr a l)) ↔
      (s.rxRst = false ∧ s.rx.state = .stop ∧ s.rx.timer = 0 ∧ s.rxI = false)) ∧
    (∀ a l, ∃ t, exec (.rxStopFerr a l) s = .next t ∧
      t = { s with rx := { s.rx with state := .error, timer := tickDown s.rx.timer s.params.dRx } } ∧
      t.rxReady = false ∧ t.rxErr = true)

/-- R123 `RX.FULL.ACK`, R124 `RX.FULL.OVERRUN` and R125 `RX.FULL.HOLD`. -/
def Obligations.RxFullAcknowledgesOverrunsOrHolds : Prop :=
  ∀ s : State,
    ((∃ p q l, fetch .rx s = some (.rxFullAck p q l)) ↔
      (s.rxRst = false ∧ s.rx.state = .full ∧ s.rxAck = true)) ∧
    (∀ p q l, ∃ t, exec (.rxFullAck p q l) s = .next t ∧
      t = { s with rx := { s.rx with state := .idle, timer := tickDown s.rx.timer s.params.dRx } } ∧
      t.rxReady = false ∧ t.rxErr = false) ∧
    ((∃ p l, fetch .rx s = some (.rxFullOverrun p l)) ↔
      (s.rxRst = false ∧ s.rx.state = .full ∧ s.rxAck = false ∧ s.rxI = false)) ∧
    (∀ p l, ∃ t, exec (.rxFullOverrun p l) s = .next t ∧
      t = { s with rx := { s.rx with state := .error, timer := tickDown s.rx.timer s.params.dRx } } ∧
      t.rxReady = false ∧ t.rxErr = true) ∧
    ((∃ p l, fetch .rx s = some (.rxFullHold p l)) ↔
      (s.rxRst = false ∧ s.rx.state = .full ∧ s.rxAck = false ∧ s.rxI = true)) ∧
    (∀ p l, ∃ t, exec (.rxFullHold p l) s = .next t ∧
      t = { s with rx := { s.rx with state := .full, timer := tickDown s.rx.timer s.params.dRx } } ∧
      t.rxReady = true ∧ t.rxErr = false)

/-- R126 `RX.ERROR.HOLD`. -/
def Obligations.RxErrorHolds : Prop :=
  ∀ s : State,
    ((∃ p q a l, fetch .rx s = some (.rxErrorHold p q a l)) ↔
      (s.rxRst = false ∧ s.rx.state = .error)) ∧
    ∀ p q a l, ∃ t, exec (.rxErrorHold p q a l) s = .next t ∧
      t = { s with rx := { s.rx with state := .error, timer := tickDown s.rx.timer s.params.dRx } } ∧
      t.rxReady = false ∧ t.rxErr = true

/-! ### The TX operations (42_uart_tx.md) -/

/-- R142 `TX.RESET`. -/
def Obligations.TxResetReturnsToIdle : Prop :=
  ∀ s : State,
    ((∃ c p q l, fetch .tx s = some (.txReset c p q l)) ↔ s.txRst = true) ∧
    ∀ c p q l, ∃ t, exec (.txReset c p q l) s = .next t ∧
      t = { s with tx := { s.tx with state := .idle, timer := 0, bitno := 0, o := true } } ∧
      t.txAck = true ∧ t.txO = true

/-- R143 `TX.IDLE.HOLD` and R144 `TX.IDLE.LOAD`; that the reload value is `D - 1` is the spec's decision D8
(notes/assumptions/13.md). -/
def Obligations.TxIdleHoldsOrLoads : Prop :=
  ∀ s : State,
    ((∃ p l, fetch .tx s = some (.txIdleHold p l)) ↔
      (s.txRst = false ∧ s.tx.state = .idle ∧ s.txRdy = false)) ∧
    (∀ p l, ∃ t, exec (.txIdleHold p l) s = .next t ∧
      t = { s with tx := { s.tx with
              state := .idle, o := true, timer := tickDown s.tx.timer s.params.dTx } } ∧
      t.txAck = true ∧ t.txO = true) ∧
    ((∃ p l, fetch .tx s = some (.txIdleLoad p l)) ↔
      (s.txRst = false ∧ s.tx.state = .idle ∧ s.txRdy = true)) ∧
    (∀ p l, ∃ t, exec (.txIdleLoad p l) s = .next t ∧
      t = { s with tx := { s.tx with
              state := .start, o := true, shreg := s.txData, timer := s.params.dTx - 1 } } ∧
      t.txAck = false ∧ t.txO = true)

/-- R145 `TX.START.WAIT` and R146 `TX.START.DRIVE`. -/
def Obligations.TxStartDrivesTheStartBit : Prop :=
  ∀ s : State,
    ((∃ q l, fetch .tx s = some (.txStartWait q l)) ↔
      (s.txRst = false ∧ s.tx.state = .start ∧ s.tx.timer ≠ 0)) ∧
    (∀ q l, ∃ t, exec (.txStartWait q l) s = .next t ∧
      t = { s with tx := { s.tx with state := .start, timer := tickDown s.tx.timer s.params.dTx } } ∧
      t.txAck = false ∧ t.txO = s.txO) ∧
    ((∃ q l, fetch .tx s = some (.txStartDrive q l)) ↔
      (s.txRst = false ∧ s.tx.state = .start ∧ s.tx.timer = 0)) ∧
    (∀ q l, ∃ t, exec (.txStartDrive q l) s = .next t ∧
      t = { s with tx := { s.tx with
              state := .data, o := false, timer := tickDown s.tx.timer s.params.dTx } } ∧
      t.txAck = false ∧ t.txO = false)

/-- R147 `TX.DATA.WAIT`, R148 `TX.DATA.SHIFT` and R149 `TX.DATA.LAST`. -/
def Obligations.TxDataDrivesTheBits : Prop :=
  ∀ s : State,
    ((∃ q l, fetch .tx s = some (.txDataWait q l)) ↔
      (s.txRst = false ∧ s.tx.state = .data ∧ s.tx.timer ≠ 0)) ∧
    (∀ q l, ∃ t, exec (.txDataWait q l) s = .next t ∧
      t = { s with tx := { s.tx with state := .data, timer := tickDown s.tx.timer s.params.dTx } } ∧
      t.txAck = false ∧ t.txO = s.txO) ∧
    ((∃ q, fetch .tx s = some (.txDataShift q)) ↔
      (s.txRst = false ∧ s.tx.state = .data ∧ s.tx.timer = 0 ∧ s.tx.bitno ≠ 7)) ∧
    (∀ q, ∃ t, exec (.txDataShift q) s = .next t ∧
      t = { s with tx :=
              { state := .data
                timer := tickDown s.tx.timer s.params.dTx
                bitno := s.tx.bitno + 1
                shreg := s.tx.shreg >>> 1
                o := s.tx.shreg.getLsbD 0 } } ∧
      t.txAck = false ∧ t.txO = s.tx.shreg.getLsbD 0) ∧
    ((∃ q, fetch .tx s = some (.txDataLast q)) ↔
      (s.txRst = false ∧ s.tx.state = .data ∧ s.tx.timer = 0 ∧ s.tx.bitno = 7)) ∧
    (∀ q, ∃ t, exec (.txDataLast q) s = .next t ∧
      t = { s with tx :=
              { state := .stop
                timer := tickDown s.tx.timer s.params.dTx
                bitno := 0
                shreg := s.tx.shreg >>> 1
                o := s.tx.shreg.getLsbD 0 } } ∧
      t.txAck = false ∧ t.txO = s.tx.shreg.getLsbD 0)

/-- R150 `TX.STOP.WAIT` and R151 `TX.STOP.DRIVE`. -/
def Obligations.TxStopDrivesTheStopLevel : Prop :=
  ∀ s : State,
    ((∃ q l, fetch .tx s = some (.txStopWait q l)) ↔
      (s.txRst = false ∧ s.tx.state = .stop ∧ s.tx.timer ≠ 0)) ∧
    (∀ q l, ∃ t, exec (.txStopWait q l) s = .next t ∧
      t = { s with tx := { s.tx with state := .stop, timer := tickDown s.tx.timer s.params.dTx } } ∧
      t.txAck = false ∧ t.txO = s.txO) ∧
    ((∃ q l, fetch .tx s = some (.txStopDrive q l)) ↔
      (s.txRst = false ∧ s.tx.state = .stop ∧ s.tx.timer = 0)) ∧
    (∀ q l, ∃ t, exec (.txStopDrive q l) s = .next t ∧
      t = { s with tx := { s.tx with
              state := .idle, o := true, timer := tickDown s.tx.timer s.params.dTx } } ∧
      t.txAck = true ∧ t.txO = true)

/-! ### The COBS operations (43_cobs_decoder.md) -/

/-- R162 `COBS.IDLE`. -/
def Obligations.CobsIdleShowsNothing : Prop :=
  ∀ s : State,
    ((∃ c l v, fetch .cobs s = some (.cobsIdle c l v)) ↔ s.iRdy = false) ∧
    ∀ c l v, exec (.cobsIdle c l v) s = .next { s with cobs := { s.cobs with oRdy := false } }

/-- R163 `COBS.LEN.ONE` and R164 `COBS.LEN.N`, with `emit_pending_zero()` of R165 in both. The spec marks R163 as
derived from R165 and 30_encoding.md R84. -/
def Obligations.CobsLengthByteEmitsThePendingZero : Prop :=
  ∀ s : State,
    ((∃ l, fetch .cobs s = some (.cobsLenOne l)) ↔
      (s.cobs.state = .awaitLen ∧ s.iRdy = true ∧ s.iData = 1)) ∧
    (∀ l, exec (.cobsLenOne l) s =
      .next { s with cobs :=
        { state := .awaitLen, len := 1, cnt := 0, zp := true
          oData := if s.cobs.zp = true then 0 else s.cobs.oData
          oRdy := if s.cobs.zp = true then true else false } }) ∧
    ((∃ l, fetch .cobs s = some (.cobsLenN l)) ↔
      (s.cobs.state = .awaitLen ∧ s.iRdy = true ∧ 2 ≤ s.iData.toNat)) ∧
    (∀ l, exec (.cobsLenN l) s =
      .next { s with cobs :=
        { state := .inBlock, len := s.iData, cnt := 0, zp := false
          oData := if s.cobs.zp = true then 0 else s.cobs.oData
          oRdy := if s.cobs.zp = true then true else false } })

/-- R166 `COBS.LEN.ZERO`: the model-level fault, the spec's decision D17 (notes/assumptions/10.md). The operation
stops on every path, because the spec forbids picking a next state. -/
def Obligations.CobsZeroLengthFaults : Prop :=
  ∀ s : State,
    ((∃ l, fetch .cobs s = some (.cobsLenZero l)) ↔
      (s.cobs.state = .awaitLen ∧ s.iRdy = true ∧ s.iData = 0)) ∧
    ∀ l, exec (.cobsLenZero l) s = .fault .cobsZeroLength

/-- R167 `COBS.DATA.MID` and R168 `COBS.DATA.LAST`. -/
def Obligations.CobsDataBytesAreEmittedVerbatim : Prop :=
  ∀ s : State,
    ((∃ v, fetch .cobs s = some (.cobsDataMid v)) ↔
      (s.cobs.state = .inBlock ∧ s.iRdy = true ∧
        (s.cobs.cnt.toNat : Int) + 1 ≠ (s.cobs.len.toNat : Int) - 1)) ∧
    (∀ v, exec (.cobsDataMid v) s =
      .next { s with cobs := { s.cobs with
        oData := s.iData, oRdy := true, cnt := s.cobs.cnt + 1, state := .inBlock } }) ∧
    ((∃ v, fetch .cobs s = some (.cobsDataLast v)) ↔
      (s.cobs.state = .inBlock ∧ s.iRdy = true ∧
        (s.cobs.cnt.toNat : Int) + 1 = (s.cobs.len.toNat : Int) - 1)) ∧
    (∀ v, exec (.cobsDataLast v) s =
      .next { s with cobs := { s.cobs with
        oData := s.iData, oRdy := true, cnt := 0, zp := decide (s.cobs.len ≠ 255),
        state := .awaitLen } })

/-! ### The RS operations (44_restrider.md) -/

/-- R182 `RS.HOLD` and R185 `RS.ACK`; acknowledging again changes nothing. -/
def Obligations.RsHoldsOrAcknowledges : Prop :=
  ∀ s : State,
    ((∃ l, fetch .rs s = some (.rsHold l)) ↔ (s.iLatch = false ∧ s.outReadAck = false)) ∧
    (∀ l, exec (.rsHold l) s = .next s) ∧
    ((∃ l, fetch .rs s = some (.rsAck l)) ↔ (s.iLatch = false ∧ s.outReadAck = true)) ∧
    (∀ l, ∃ t, exec (.rsAck l) s = .next t ∧ t = { s with rs := { s.rs with done := false } } ∧
      t.outWord.toNat = s.outWord.toNat ∧ ∀ l', exec (.rsAck l') t = .next t)

/-- R183 `RS.WRITE.MID` and R184 `RS.WRITE.LAST`, for every machine with at least one chunk (00_scope.md R9). -/
def Obligations.RsWritesStoreTheChunk : Prop :=
  ∀ s : State, 1 ≤ s.params.k →
    ((∃ a, fetch .rs s = some (.rsWriteMid a)) ↔
      (s.iLatch = true ∧ s.rs.idx ≠ s.params.k - 1)) ∧
    (∀ a, ∃ t, exec (.rsWriteMid a) s = .next t ∧
      t = { s with rs := { chunks := s.rs.chunks.set s.rs.idx s.rsData, idx := s.rs.idx + 1,
                           done := false } } ∧ t.done = false) ∧
    ((∃ a, fetch .rs s = some (.rsWriteLast a)) ↔
      (s.iLatch = true ∧ s.rs.idx = s.params.k - 1)) ∧
    (∀ a, ∃ t, exec (.rsWriteLast a) s = .next t ∧
      t = { s with rs := { chunks := s.rs.chunks.set (s.params.k - 1) s.rsData, idx := 0,
                           done := true } } ∧ t.done = true)

/-! ### Reset and invariants (10_state.md, 70_reset_and_hazards.md) -/

/-- R241 of 70_reset_and_hazards.md: the registers and outputs in tick 0, for any parameters and any draw of the
data registers (the control registers' zeros are the spec's decision D6). Last, the model's `State.reset` is one of
these states: its draw and its parameters are the model's choice (notes/assumptions/5.md, 6.md). -/
def Obligations.InitialisationLeavesTheStatedValues : Prop :=
  (∀ (p : Params) (draw : DataDraw) (stim : List Inputs),
    let s := State.initial p draw stim
    s.rx.state = .idle ∧ s.tx.state = .idle ∧ s.cobs.state = .awaitLen ∧
    s.rx.timer = 0 ∧ s.tx.timer = 0 ∧ s.rx.bitno = 0 ∧ s.tx.bitno = 0 ∧ s.cobs.cnt = 0 ∧
    s.rs.idx = 0 ∧ s.cobs.zp = false ∧ s.cobs.oRdy = false ∧ s.rs.done = false ∧ s.tx.o = true ∧
    s.rxReady = false ∧ s.rxErr = false ∧ s.txAck = true ∧ s.done = false ∧ s.oRdy = false ∧
    s.txO = true) ∧
  ∃ draw : DataDraw, State.reset = State.initial Config.params draw []

/-- The invariants of 10_state.md R51 hold after initialisation, for any parameters in range and any draw, and
in the model's reset state, whose draw and parameters are the model's choice (notes/assumptions/5.md, 6.md). -/
def Obligations.InvariantHoldsInitially : Prop :=
  (∀ (p : Params) (draw : DataDraw) (stim : List Inputs), p.InRange →
    (State.initial p draw stim).Inv) ∧ State.reset.Inv

/-- Every step keeps the invariants of 10_state.md R51, items 1 to 7, and item 8 holds of every step: an output
byte follows an input byte. -/
def Obligations.StepKeepsTheInvariant : Prop :=
  ∀ s t : State, s.Inv → step s = .next t → t.Inv ∧ (t.oRdy = true → s.iRdy = true)

/-- R242 of 70_reset_and_hazards.md: a reset input puts its machine in its initial state in the next tick, over
every other condition, and the other three machines do not see it (a synchronous level: the spec's decision D10). -/
def Obligations.ResetInputsActOnTheirMachineOnly : Prop :=
  ∀ s t : State, step s = .next t →
    (s.rxRst = true → t.rx = { s.rx with state := .idle, timer := 0, bitno := 0 }) ∧
    (s.txRst = true → t.tx = { s.tx with state := .idle, timer := 0, bitno := 0, o := true }) ∧
    (∀ b : Bool, ∃ t' : State,
      step { s with stimulus := { s.driven with rxRst := b } :: s.stimulus.tail } = .next t' ∧
        t' = { t with rx := t'.rx }) ∧
    (∀ b : Bool, ∃ t' : State,
      step { s with stimulus := { s.driven with txRst := b } :: s.stimulus.tail } = .next t' ∧
        t' = { t with tx := t'.tx })

/-- 10_state.md R50: no unspecified value of a data register reaches a consumer that obeys the valid flags. Runs
from initial states that differ only in the draw show the same observations in every tick. -/
def Obligations.UnspecifiedDataIsNeverObserved : Prop :=
  ∀ (p : Params) (draw draw' : DataDraw) (stim : List Inputs) (n : Nat) (s : State), p.InRange →
    run n (State.initial p draw stim) = .next s →
    ∃ s' : State, run n (State.initial p draw' stim) = .next s' ∧ s'.observe = s.observe

/-! ### Flags and errors (10_state.md R44; 60_exceptions.md) -/

/-- 10_state.md R44: what sets and what clears each of the six flags. Over every state, `cobs_zp` also falls by
`COBS.DATA.LAST` of a block of length 255, which R44's table does not list: 43_cobs_decoder.md R168 and the spec's
decision D16 (notes/assumptions/13.md). In states with `State.CobsInv` that case does not occur. -/
def Obligations.FlagsChangeOnlyAsListed : Prop :=
  ∀ s t : State, step s = .next t →
    (s.rxReady = false → t.rxReady = true → ∃ a l, fetch .rx s = some (.rxStopOk a l)) ∧
    (s.rxReady = true → t.rxReady = false →
      (∃ p q l, fetch .rx s = some (.rxFullAck p q l)) ∨
      (∃ p l, fetch .rx s = some (.rxFullOverrun p l)) ∨
      (∃ c p q a l, fetch .rx s = some (.rxReset c p q a l))) ∧
    (s.rxErr = false → t.rxErr = true →
      (∃ a l, fetch .rx s = some (.rxStopFerr a l)) ∨
      (∃ p l, fetch .rx s = some (.rxFullOverrun p l))) ∧
    (s.rxErr = true → t.rxErr = false → ∃ c p q a l, fetch .rx s = some (.rxReset c p q a l)) ∧
    (s.txAck = false → t.txAck = true →
      (∃ q l, fetch .tx s = some (.txStopDrive q l)) ∨
      (∃ c p q l, fetch .tx s = some (.txReset c p q l))) ∧
    (s.txAck = true → t.txAck = false → ∃ p l, fetch .tx s = some (.txIdleLoad p l)) ∧
    (t.oRdy = true ↔
      s.iRdy = true ∧ (s.cobs.state = .inBlock ∨ s.cobs.zp = true)) ∧
    (s.cobs.zp = false → t.cobs.zp = true →
      (∃ l, fetch .cobs s = some (.cobsLenOne l)) ∨
      ((∃ v, fetch .cobs s = some (.cobsDataLast v)) ∧ s.cobs.len ≠ 255)) ∧
    (s.cobs.zp = true → t.cobs.zp = false →
      (∃ l, fetch .cobs s = some (.cobsLenN l)) ∨
      ((∃ v, fetch .cobs s = some (.cobsDataLast v)) ∧ s.cobs.len = 255)) ∧
    (s.done = false → t.done = true → ∃ a, fetch .rs s = some (.rsWriteLast a)) ∧
    (s.done = true → t.done = false →
      (∃ a, fetch .rs s = some (.rsWriteMid a)) ∨ (∃ l, fetch .rs s = some (.rsAck l)))

/-- 10_state.md R41: the reset value and the life of `done`. That a latch wins over an acknowledge in the same tick is
44_restrider.md R181, the spec's decision D21 (notes/assumptions/16.md). -/
def Obligations.DoneIsSetByTheLastChunkOnly : Prop :=
  (∀ (p : Params) (draw : DataDraw) (stim : List Inputs), (State.initial p draw stim).done = false) ∧
  ∀ s t : State, 1 ≤ s.params.k → step s = .next t →
    (s.iLatch = true → s.rs.idx = s.params.k - 1 → t.done = true) ∧
    (s.iLatch = true → s.rs.idx ≠ s.params.k - 1 → t.done = false) ∧
    (s.iLatch = false → s.outReadAck = true → t.done = false) ∧
    (s.iLatch = false → s.outReadAck = false → t.done = s.done)

/-- 60_exceptions.md R220: the only way out of ERROR is the reset input, and it leads to IDLE. -/
def Obligations.ErrorIsLeftOnlyByReset : Prop :=
  ∀ s t : State, s.rx.state = .error → step s = .next t →
    (s.rxRst = false → t.rx.state = .error ∧ t.rxErr = true ∧ t.rx.shreg = s.rx.shreg ∧
      t.rx.bitno = s.rx.bitno) ∧
    (s.rxRst = true → t.rx.state = .idle ∧ t.rxErr = false)

/-- 60_exceptions.md R211, R212, R213, R219: ERROR is entered only by a low stop sample (E1) or by a low line
while an octet is held unacknowledged (E2); `rx_ready` in the tick before tells them apart; and the entry changes
no register of RX but the state and the running timer. -/
def Obligations.ErrorIsEnteredOnlyByFramingOrOverrun : Prop :=
  ∀ s t : State, s.rxErr = false → step s = .next t →
    (t.rxErr = true ↔
      s.rxRst = false ∧ s.rxI = false ∧
        ((s.rx.state = .stop ∧ s.rx.timer = 0) ∨ (s.rx.state = .full ∧ s.rxAck = false))) ∧
    (t.rxErr = true → s.rxReady = true → ∃ p l, fetch .rx s = some (.rxFullOverrun p l)) ∧
    (t.rxErr = true → s.rxReady = false → ∃ a l, fetch .rx s = some (.rxStopFerr a l)) ∧
    (t.rxErr = true →
      t.rx = { s.rx with state := .error, timer := tickDown s.rx.timer s.params.dRx })

/-- 20_memory.md R76: what each handshake keeps stable. -/
def Obligations.HandshakesKeepTheirDataStable : Prop :=
  ∀ s t : State, step s = .next t →
    (s.rxReady = true → t.rxReady = true → t.rxData = s.rxData) ∧
    (s.done = true → s.iLatch = false → t.outWord.toNat = s.outWord.toNat) ∧
    (s.tx.shreg ≠ t.tx.shreg → s.txAck = true → s.txRdy = true ∧ t.tx.shreg = s.txData)

/-- 42_uart_tx.md R154: a request made while the transmitter is not in IDLE is ignored and not remembered: the step
is the same whatever `tx_rdy` and `tx_data` are. -/
def Obligations.TxIgnoresRequestsWhileBusy : Prop :=
  ∀ (s : State) (rdy : Bool) (data : Octet), s.txAck = false →
    step { s with stimulus := { s.driven with txRdy := rdy, txData := data } :: s.stimulus.tail } =
      step s

/-! ### The divider (40_divider.md) -/

/-- R103: which operations let the timers count down, and how `tick_down` counts. That the counters run in the
states that do not use them is the spec's decision D9 (notes/assumptions/13.md). -/
def Obligations.TimersCountDownInEveryOtherOperation : Prop :=
  (∀ (i : Instr) (s t : State), exec i s = .next t →
    (i.agent = .rx → (∀ c p q a l, i ≠ .rxReset c p q a l) → (∀ p a l, i ≠ .rxIdleDetect p a l) →
      t.rx.timer = tickDown s.rx.timer s.params.dRx) ∧
    (i.agent = .tx → (∀ c p q l, i ≠ .txReset c p q l) → (∀ p l, i ≠ .txIdleLoad p l) →
      t.tx.timer = tickDown s.tx.timer s.params.dTx)) ∧
  (∀ d t : Nat, t < d → tickDown t d < d ∧ (t = 0 → tickDown t d = d - 1) ∧
    (t ≠ 0 → tickDown t d = t - 1))

/-- R105: while no reload intervenes, a counter that reads `v` is zero again exactly `v`, `v + D`, `v + 2D`, …
ticks later. -/
def Obligations.StrobeComesEveryDTicks : Prop :=
  ∀ d v n : Nat, v < d →
    ((fun t => tickDown t d)^[n] v = 0 ↔ ∃ j : Nat, n = v + j * d)

/-- R100 to R102, and the divider property of LUNA: the rounding is to a nearest integer under every tie rule;
`div_config` succeeds exactly when the rounded quotient is at least 1 and the error is within the ceiling, with
that quotient as its result; and which of the two errors it raises otherwise. -/
def Obligations.DivConfigSucceedsExactlyWithinTolerance : Prop :=
  ∀ (tie : TieRule) (base target : ℚ) (ceiling : Option ℚ),
    let d := roundNearest tie (base / target)
    |base / target - d| ≤ 1 / 2 ∧
    (∀ n : Nat, divConfigWith tie base target ceiling = .ok n ↔
      (n : Int) = d ∧ 1 ≤ d ∧ ∀ m, ceiling = some m → |errorPpm base target d| ≤ m) ∧
    (divConfigWith tie base target ceiling = .error .targetRateTooHigh ↔ d < 1) ∧
    (divConfigWith tie base target ceiling = .error .frequencyError ↔
      1 ≤ d ∧ ∃ m, ceiling = some m ∧ m < |errorPpm base target d|)

/-- R102: exact halves go to the even integer, and one half fails. The tie rule is the spec's decision D24, which it
calls open (93_implementation_defined.md U7), and the model's default (notes/assumptions/12.md). -/
def Obligations.DivConfigRoundsHalvesToEven : Prop :=
  divConfig 5 2 none = .ok 2 ∧ divConfig 7 2 none = .ok 4 ∧
  divConfig 1 2 none = .error .targetRateTooHigh ∧
  ∀ n : Int, roundNearest .toEven ((n : ℚ) + 1 / 2) = if n % 2 = 0 then n else n + 1

/-- 70_reset_and_hazards.md R244 with 40_divider.md R101: a configuration error prevents the hardware from ever
starting, and hardware that is started meets the invariants. That RX and TX get the same divisor is the spec's
decision D3 in 00_scope.md R9 (notes/assumptions/6.md). -/
def Obligations.BringUpStartsOnlyValidHardware : Prop :=
  ∀ (base target : ℚ) (ceiling : Option ℚ) (k : Nat) (w : Wiring) (draw : DataDraw)
    (stim : List Inputs),
    (∀ e, divConfig base target ceiling = .error e →
      State.construct base target ceiling k w draw stim = .error e) ∧
    (∀ s, State.construct base target ceiling k w draw stim = .ok s → 1 ≤ k →
      s.Inv ∧ s.params.dRx = s.params.dTx ∧ s.params.k = k ∧
        divConfig base target ceiling = .ok s.params.dRx)

/-- 00_scope.md R9: the stated counter width holds `0 .. n-1`, and no smaller positive width does. -/
def Obligations.CounterWidthHoldsTheRange : Prop :=
  ∀ n : Nat, 1 ≤ n →
    n - 1 < 2 ^ Config.counterWidth n ∧
    ∀ w, 1 ≤ w → n - 1 < 2 ^ w → Config.counterWidth n ≤ w

/-! ### The word (30_encoding.md R86, R87; 44_restrider.md R187) -/

/-- R86 and 20_memory.md R64: chunk `i` stands at bits `8i+7 .. 8i` of `out_word`. -/
def Obligations.WordPlacesChunksByIndex : Prop :=
  ∀ (s : State) (i : Nat) (c : Octet), s.rs.chunks.length = s.params.k →
    s.rs.chunks[i]? = some c → s.outWord.extractLsb' (8 * i) 8 = c

/-- R87: the word as a number, with the example of R87. -/
def Obligations.WordIsTheWeightedSumOfChunks : Prop :=
  (∀ s : State, s.rs.chunks.length = s.params.k →
    s.outWord.toNat =
      ∑ i ∈ Finset.range s.params.k, ((s.rs.chunks[i]?).getD 0).toNat * 2 ^ (8 * i)) ∧
  wordValue [0x80, 0x40, 0x20] = 0x204080

/-- 44_restrider.md R187, R188: `K` chunks written in consecutive ticks from index 0 make a word of exactly those
chunks in their order, over whatever was there before, with `done` withdrawn by the first of them (for `K >= 2`)
and set by the last, whatever the acknowledge does. -/
def Obligations.RestriderFillsAWord : Prop :=
  ∀ (s : State) (bytes : List Octet), s.params.wiring.cobsToRs = false → s.rs.idx = 0 →
    1 ≤ s.params.k → s.rs.chunks.length = s.params.k → bytes.length = s.params.k →
    (∀ (j : Nat) (b : Octet), bytes[j]? = some b →
      (s.inputsAt j).iLatch = true ∧ (s.inputsAt j).rsData = b) →
    (∀ (n : Nat) (t : State), run n s = .next t → 0 < n → n < s.params.k →
      t.done = false ∧ t.rs.idx = n ∧ t.rs.chunks = bytes.take n ++ s.rs.chunks.drop n) ∧
    (∀ t : State, run s.params.k s = .next t → t.rs = { idx := 0, chunks := bytes, done := true })

/-! ### Runs of the receiver and the transmitter -/

/-- 41_uart_rx.md R128: the events of a frame, counted from the tick that detects its start, whatever the line does
after it and whatever the other machines do. -/
def Obligations.RxEventsFallOnTheirTicks : Prop :=
  ∀ (s t : State) (n : Nat), 1 ≤ s.params.dRx → s.rx.state = .idle → s.rx.bitno = 0 →
    s.rxI = false → (∀ j, j ≤ n → (s.inputsAt j).rxRst = false) → run n s = .next t →
    let d := s.params.dRx
    let h := s.params.dRx / 2
    (n = 1 → t.rx.state = .start ∧ t.rx.timer = h) ∧
    (n = 1 + h → ∃ q a l, fetch .rx t = some (.rxStartGo q a l)) ∧
    (∀ i, i < 7 → n = 1 + h + (i + 1) * d → fetch .rx t = some (.rxDataShift t.rxI t.rxAck)) ∧
    (n = 1 + h + 8 * d → fetch .rx t = some (.rxDataLast t.rxI t.rxAck)) ∧
    (n = 1 + h + 9 * d →
      (∃ a l, fetch .rx t = some (.rxStopOk a l)) ∨ ∃ a l, fetch .rx t = some (.rxStopFerr a l)) ∧
    (n < 2 + h + 9 * d → t.rxReady = false ∧ t.rxErr = false) ∧
    (n = 2 + h + 9 * d → t.rxReady = true ∨ t.rxErr = true)

/-- 30_encoding.md R81 with 41_uart_rx.md R128, R121, R122: for any levels of the line, the octet received is the
list of its eight samples, least significant first, and the stop sample alone decides between FULL and ERROR. -/
def Obligations.RxOctetIsItsSamples : Prop :=
  ∀ s t : State, 1 ≤ s.params.dRx → s.rx.state = .idle → s.rx.bitno = 0 → s.rxI = false →
    let d := s.params.dRx
    let h := s.params.dRx / 2
    (∀ j, j < 2 + h + 9 * d → (s.inputsAt j).rxRst = false) →
    run (2 + h + 9 * d) s = .next t →
    (∀ (i : Nat) (u : State), i < 8 → run (1 + h + (i + 1) * d) s = .next u →
      t.rx.shreg.getLsbD i = u.rxI) ∧
    (∀ u : State, run (1 + h + 9 * d) s = .next u →
      t.rx.state = if u.rxI = true then .full else .error)

/-- 41_uart_rx.md R129: with `D >= 3` and a frame of `b` on the line, `rx_ready` is 0 until the stop bit has been
checked and is then 1, with `rx_data = b`, as long as the consumer has not acknowledged and the line stays high;
in the tick after the acknowledge it is 0. -/
def Obligations.RxReceivesTheOctetSent : Prop :=
  ∀ (s t : State) (b : Octet) (n : Nat), 3 ≤ s.params.dRx → s.params.wiring.txToRx = false →
    s.rx.state = .idle → s.rx.bitno = 0 →
    (∀ j, j < n → (s.inputsAt j).rxRst = false ∧
      (s.inputsAt j).rxI = frameLevel s.params.dRx b j) →
    let ready := 2 + s.params.dRx / 2 + 9 * s.params.dRx
    (ready < n → s.params.wiring.rxToCobs = false ∧
      ∀ j, ready ≤ j → j < n → (s.inputsAt j).rxAck = false) →
    run n s = .next t →
    t.rxReady = decide (ready ≤ n) ∧ t.rxErr = false ∧
    (ready ≤ n → t.rxData = b ∧
      ∀ u : State, t.rxAck = true → step t = .next u → u.rxReady = false)

/-- 70_reset_and_hazards.md R259: a sender with its own bit period `p` is received correctly when every sample
falls inside its own bit. -/
def Obligations.RxToleratesTheSendersRate : Prop :=
  ∀ (s t : State) (b : Octet) (p e : ℚ), 1 ≤ s.params.dRx → s.params.wiring.txToRx = false →
    s.rx.state = .idle → s.rx.bitno = 0 → 0 < p → 0 ≤ e → e < 1 → e < p →
    let d := s.params.dRx
    let h := s.params.dRx / 2
    (∀ j : Nat, 1 ≤ j → j ≤ 9 →
      (j : ℚ) * p ≤ e + ((1 + h + j * d : Nat) : ℚ) ∧
        e + ((1 + h + j * d : Nat) : ℚ) < ((j : ℚ) + 1) * p) →
    (∀ j, j < 2 + h + 9 * d → (s.inputsAt j).rxRst = false ∧
      (s.inputsAt j).rxI = senderLevel p e b j) →
    run (2 + h + 9 * d) s = .next t → t.rxReady = true ∧ t.rxData = b

/-- 42_uart_tx.md R153: the waveform of an octet, tick by tick, for every `D >= 1`, and `tx_ack` along it. -/
def Obligations.TxWaveformIsTheFrame : Prop :=
  ∀ (s t : State) (n : Nat), 1 ≤ s.params.dTx → s.tx.state = .idle → s.tx.bitno = 0 →
    s.txRdy = true → (∀ j, j < n → (s.inputsAt j).txRst = false) →
    1 ≤ n → n ≤ 10 * s.params.dTx + 1 → run n s = .next t →
    t.txO = txWaveform s.params.dTx s.txData n ∧
    t.txAck = decide (n = 10 * s.params.dTx + 1)

/-- 42_uart_tx.md R155: in loop-back with the same `D >= 3`, the receiver delivers the octet sent. -/
def Obligations.LoopBackDeliversTheOctet : Prop :=
  ∀ s t : State, s.params.wiring.txToRx = true → s.params.dTx = s.params.dRx →
    3 ≤ s.params.dRx → s.rx.state = .idle → s.rx.bitno = 0 → s.tx.state = .idle →
    s.tx.bitno = 0 → s.tx.o = true → s.txRdy = true →
    let ready := 3 + s.params.dRx / 2 + 10 * s.params.dRx
    (∀ j, j < ready → (s.inputsAt j).rxRst = false ∧ (s.inputsAt j).txRst = false) →
    run ready s = .next t → t.rxReady = true ∧ t.rxData = s.txData

/-! ### Runs of the decoder and of the pipeline -/

/-- 43_cobs_decoder.md R170: fed the bytes of complete blocks from its initial state, with any idle ticks between,
the decoder shows exactly `decode_stream` of them, and ends with the function's pending zero. No fault occurs. The
premise `completeBlocks` keeps to the lists on which R84 defines the function (notes/assumptions/19.md). -/
def Obligations.CobsStreamIsDecoded : Prop :=
  ∀ (s : State) (feed : List (Option Octet)), s.params.wiring.rxToCobs = false →
    s.cobs.state = .awaitLen → s.cobs.zp = false → s.cobs.oRdy = false →
    (∀ (j : Nat) (x : Option Octet), feed[j]? = some x →
      (s.inputsAt j).iRdy = x.isSome ∧ ∀ b, x = some b → (s.inputsAt j).iData = b) →
    completeBlocks (feed.filterMap id) = true →
    ∃ t : State, run feed.length s = .next t ∧
      shownBytes (feed.length + 1) s = (decodeStream (feed.filterMap id)).1 ∧
      t.cobs.state = .awaitLen ∧ t.cobs.zp = (decodeStream (feed.filterMap id)).2

/-- 45_pipeline.md R197: in the pipeline the decoder sees the receiver's output in the same tick, the receiver
neither overruns nor holds, and `rx_ready` lasts exactly one tick. -/
def Obligations.PipelineReceiverNeverOverruns : Prop :=
  ∀ s : State, s.params.wiring.rxToCobs = true →
    s.iData = s.rxData ∧ s.iRdy = s.rxReady ∧ s.rxAck = true ∧
    (∀ p l, fetch .rx s ≠ some (.rxFullOverrun p l)) ∧
    (∀ p l, fetch .rx s ≠ some (.rxFullHold p l)) ∧
    ∀ t : State, s.rxReady = true → step s = .next t → t.rxReady = false

/-- 45_pipeline.md R202: an octet's way through the chain, tick by tick after its stop sample. -/
def Obligations.PipelineLatencyIsThreeTicks : Prop :=
  ∀ s s1 s2 s3 : State, s.params.wiring.rxToCobs = true → s.params.wiring.cobsToRs = true →
    s.rxRst = false → s.rx.state = .stop → s.rx.timer = 0 → s.rxI = true →
    step s = .next s1 → step s1 = .next s2 → step s2 = .next s3 →
    (s1.rxReady = true ∧ s1.rxData = s.rxData ∧ s1.iRdy = true ∧ s1.iData = s.rxData) ∧
    (s1.rxRst = false → ∃ p q l, fetch .rx s1 = some (.rxFullAck p q l)) ∧
    (s2.rxReady = false ∧
      (s2.oRdy = true ↔ s.cobs.state = .inBlock ∨ s.cobs.zp = true) ∧
      (s.cobs.state = .inBlock → s2.oData = s.rxData) ∧
      (s.cobs.state = .awaitLen → s.cobs.zp = true → s2.oData = 0)) ∧
    (s3.oRdy = false ∧
      (s2.oRdy = true →
        s3.rs = { idx := if s2.rs.idx + 1 = s2.params.k then 0 else s2.rs.idx + 1
                  chunks := s2.rs.chunks.set s2.rs.idx s2.oData
                  done := decide (s2.rs.idx + 1 = s2.params.k) }))
end

