-- ==== Sys2Proof/Laws/State.lean ====
section
/-! SUPPORT. One lemma per field per update of State, each true by rfl. -/

namespace Sys2Proof.Machine

@[simp] theorem State.setRx_rx (s : State) (v : Rx) : (s.setRx v).rx = v := rfl
@[simp] theorem State.setRx_tx (s : State) (v : Rx) : (s.setRx v).tx = s.tx := rfl
@[simp] theorem State.setRx_cobs (s : State) (v : Rx) : (s.setRx v).cobs = s.cobs := rfl
@[simp] theorem State.setRx_rs (s : State) (v : Rx) : (s.setRx v).rs = s.rs := rfl
@[simp] theorem State.setRx_params (s : State) (v : Rx) : (s.setRx v).params = s.params := rfl
@[simp] theorem State.setRx_stimulus (s : State) (v : Rx) : (s.setRx v).stimulus = s.stimulus := rfl
@[simp] theorem State.setRx_tick (s : State) (v : Rx) : (s.setRx v).tick = s.tick := rfl

@[simp] theorem State.setTx_rx (s : State) (v : Tx) : (s.setTx v).rx = s.rx := rfl
@[simp] theorem State.setTx_tx (s : State) (v : Tx) : (s.setTx v).tx = v := rfl
@[simp] theorem State.setTx_cobs (s : State) (v : Tx) : (s.setTx v).cobs = s.cobs := rfl
@[simp] theorem State.setTx_rs (s : State) (v : Tx) : (s.setTx v).rs = s.rs := rfl
@[simp] theorem State.setTx_params (s : State) (v : Tx) : (s.setTx v).params = s.params := rfl
@[simp] theorem State.setTx_stimulus (s : State) (v : Tx) : (s.setTx v).stimulus = s.stimulus := rfl
@[simp] theorem State.setTx_tick (s : State) (v : Tx) : (s.setTx v).tick = s.tick := rfl

@[simp] theorem State.setCobs_rx (s : State) (v : Cobs) : (s.setCobs v).rx = s.rx := rfl
@[simp] theorem State.setCobs_tx (s : State) (v : Cobs) : (s.setCobs v).tx = s.tx := rfl
@[simp] theorem State.setCobs_cobs (s : State) (v : Cobs) : (s.setCobs v).cobs = v := rfl
@[simp] theorem State.setCobs_rs (s : State) (v : Cobs) : (s.setCobs v).rs = s.rs := rfl
@[simp] theorem State.setCobs_params (s : State) (v : Cobs) : (s.setCobs v).params = s.params := rfl
@[simp] theorem State.setCobs_stimulus (s : State) (v : Cobs) : (s.setCobs v).stimulus = s.stimulus := rfl
@[simp] theorem State.setCobs_tick (s : State) (v : Cobs) : (s.setCobs v).tick = s.tick := rfl

@[simp] theorem State.setRs_rx (s : State) (v : Rs) : (s.setRs v).rx = s.rx := rfl
@[simp] theorem State.setRs_tx (s : State) (v : Rs) : (s.setRs v).tx = s.tx := rfl
@[simp] theorem State.setRs_cobs (s : State) (v : Rs) : (s.setRs v).cobs = s.cobs := rfl
@[simp] theorem State.setRs_rs (s : State) (v : Rs) : (s.setRs v).rs = v := rfl
@[simp] theorem State.setRs_params (s : State) (v : Rs) : (s.setRs v).params = s.params := rfl
@[simp] theorem State.setRs_stimulus (s : State) (v : Rs) : (s.setRs v).stimulus = s.stimulus := rfl
@[simp] theorem State.setRs_tick (s : State) (v : Rs) : (s.setRs v).tick = s.tick := rfl

@[simp] theorem State.latch_rx (s : State) (a : Rx) (b : Tx) (c : Cobs) (d : Rs) :
    (s.latch a b c d).rx = a := rfl
@[simp] theorem State.latch_tx (s : State) (a : Rx) (b : Tx) (c : Cobs) (d : Rs) :
    (s.latch a b c d).tx = b := rfl
@[simp] theorem State.latch_cobs (s : State) (a : Rx) (b : Tx) (c : Cobs) (d : Rs) :
    (s.latch a b c d).cobs = c := rfl
@[simp] theorem State.latch_rs (s : State) (a : Rx) (b : Tx) (c : Cobs) (d : Rs) :
    (s.latch a b c d).rs = d := rfl
@[simp] theorem State.latch_params (s : State) (a : Rx) (b : Tx) (c : Cobs) (d : Rs) :
    (s.latch a b c d).params = s.params := rfl
@[simp] theorem State.latch_stimulus (s : State) (a : Rx) (b : Tx) (c : Cobs) (d : Rs) :
    (s.latch a b c d).stimulus = s.stimulus.tail := rfl
@[simp] theorem State.latch_tick (s : State) (a : Rx) (b : Tx) (c : Cobs) (d : Rs) :
    (s.latch a b c d).tick = s.tick + 1 := rfl

@[simp] theorem State.withInputs_rx (s : State) (x : Inputs) : (s.withInputs x).rx = s.rx := rfl
@[simp] theorem State.withInputs_tx (s : State) (x : Inputs) : (s.withInputs x).tx = s.tx := rfl
@[simp] theorem State.withInputs_cobs (s : State) (x : Inputs) : (s.withInputs x).cobs = s.cobs := rfl
@[simp] theorem State.withInputs_rs (s : State) (x : Inputs) : (s.withInputs x).rs = s.rs := rfl
@[simp] theorem State.withInputs_tick (s : State) (x : Inputs) : (s.withInputs x).tick = s.tick := rfl
@[simp] theorem State.withInputs_stimulus (s : State) (x : Inputs) :
    (s.withInputs x).stimulus = x :: s.stimulus.tail := rfl
@[simp] theorem State.withInputs_wiring (s : State) (x : Inputs) :
    (s.withInputs x).params.wiring = Wiring.separate := rfl
@[simp] theorem State.withInputs_driven (s : State) (x : Inputs) : (s.withInputs x).driven = x := rfl

@[simp] theorem State.initial_rx (p : Params) (w : DataDraw) (z : List Inputs) :
    (State.initial p w z).rx = { state := .idle, timer := 0, bitno := 0, shreg := w.rxShreg } := rfl
@[simp] theorem State.initial_tx (p : Params) (w : DataDraw) (z : List Inputs) :
    (State.initial p w z).tx = { state := .idle, timer := 0, bitno := 0, shreg := w.txShreg, o := true } := rfl
@[simp] theorem State.initial_params (p : Params) (w : DataDraw) (z : List Inputs) :
    (State.initial p w z).params = p := rfl
@[simp] theorem State.initial_stimulus (p : Params) (w : DataDraw) (z : List Inputs) :
    (State.initial p w z).stimulus = z := rfl
@[simp] theorem State.initial_tick (p : Params) (w : DataDraw) (z : List Inputs) :
    (State.initial p w z).tick = 0 := rfl
@[simp] theorem State.initial_cobs (p : Params) (w : DataDraw) (z : List Inputs) :
    (State.initial p w z).cobs = { state := .awaitLen, len := w.cobsLen, cnt := 0, zp := false, oData := w.oData, oRdy := false } := rfl
@[simp] theorem State.initial_rs (p : Params) (w : DataDraw) (z : List Inputs) :
    (State.initial p w z).rs = { idx := 0, chunks := fitChunks p.k w.chunks, done := false } := rfl

end Sys2Proof.Machine
end

