-- ==== Sys2Proof/Laws/Ops.lean ====
section
/-! SUPPORT. For each shared operation, what it does, said once. -/

namespace Sys2Proof.Machine

/-! ### Counters -/

@[simp] theorem tickDown_zero (d : Nat) : tickDown 0 d = d - 1 := rfl

@[simp] theorem tickDown_succ (t d : Nat) : tickDown (t + 1) d = t := by simp [tickDown]

theorem tickDown_of_pos {t d : Nat} (h : t ≠ 0) : tickDown t d = t - 1 := by simp [tickDown, h]

/-! ### The shift of an octet -/

theorem pushHigh_getLsbD (b : Bool) (v : Octet) (i : Nat) :
    (pushHigh b v).getLsbD i = if i = 7 then b else decide (i < 7) && v.getLsbD (i + 1) := by
  simp [pushHigh, BitVec.getLsbD_cons, BitVec.getLsbD_extractLsb', Nat.add_comm]

/-- Bit 7 of a shifted octet is the bit that entered. -/
theorem pushHigh_bit7 (b : Bool) (v : Octet) : (pushHigh b v).getLsbD 7 = b := by
  rw [pushHigh_getLsbD, if_pos rfl]

/-- Bit `i` of a shifted octet is the old bit `i + 1`. -/
theorem pushHigh_low {i : Nat} (b : Bool) (v : Octet) (h : i < 7) :
    (pushHigh b v).getLsbD i = v.getLsbD (i + 1) := by
  simp [pushHigh_getLsbD, h, Nat.ne_of_lt h]

/-! ### RX and TX -/

@[simp] theorem Rx.goTo_state (d : Nat) (st : RxState) (r : Rx) : (r.goTo d st).state = st := rfl
@[simp] theorem Rx.goTo_timer (d : Nat) (st : RxState) (r : Rx) :
    (r.goTo d st).timer = tickDown r.timer d := rfl
@[simp] theorem Rx.goTo_bitno (d : Nat) (st : RxState) (r : Rx) : (r.goTo d st).bitno = r.bitno := rfl
@[simp] theorem Rx.goTo_shreg (d : Nat) (st : RxState) (r : Rx) : (r.goTo d st).shreg = r.shreg := rfl

@[simp] theorem Rx.takeSample_state (b : Bool) (r : Rx) : (r.takeSample b).state = r.state := rfl
@[simp] theorem Rx.takeSample_timer (b : Bool) (r : Rx) : (r.takeSample b).timer = r.timer := rfl
@[simp] theorem Rx.takeSample_bitno (b : Bool) (r : Rx) : (r.takeSample b).bitno = r.bitno + 1 := rfl
@[simp] theorem Rx.takeSample_shreg (b : Bool) (r : Rx) :
    (r.takeSample b).shreg = pushHigh b r.shreg := rfl

/-- Taking the receiver's error changes the state and lets the timer run; nothing else (60_exceptions.md R219). -/
theorem Rx.enterError_eq (d : Nat) (r : Rx) :
    r.enterError d = { r with state := .error, timer := tickDown r.timer d } := rfl

/-- Leaving the error state keeps the shift register only (60_exceptions.md R220). -/
theorem Rx.reinit_eq (r : Rx) :
    r.reinit = { state := .idle, timer := 0, bitno := 0, shreg := r.shreg } := rfl

@[simp] theorem Tx.goTo_state (d : Nat) (st : TxState) (t : Tx) : (t.goTo d st).state = st := rfl
@[simp] theorem Tx.goTo_timer (d : Nat) (st : TxState) (t : Tx) :
    (t.goTo d st).timer = tickDown t.timer d := rfl
@[simp] theorem Tx.goTo_bitno (d : Nat) (st : TxState) (t : Tx) : (t.goTo d st).bitno = t.bitno := rfl
@[simp] theorem Tx.goTo_shreg (d : Nat) (st : TxState) (t : Tx) : (t.goTo d st).shreg = t.shreg := rfl
@[simp] theorem Tx.goTo_o (d : Nat) (st : TxState) (t : Tx) : (t.goTo d st).o = t.o := rfl

theorem Tx.drive_eq (b : Bool) (t : Tx) : t.drive b = { t with o := b } := rfl

theorem Tx.driveBit_eq (t : Tx) :
    t.driveBit = { t with o := t.shreg.getLsbD 0, shreg := pushHigh false t.shreg,
                          bitno := t.bitno + 1 } := rfl

theorem Tx.reinit_eq (t : Tx) :
    t.reinit = { state := .idle, timer := 0, bitno := 0, shreg := t.shreg, o := true } := rfl

/-! ### COBS and RS -/

theorem Cobs.emit_eq (b : Octet) (c : Cobs) : c.emit b = { c with oData := b, oRdy := true } := rfl

theorem Cobs.silent_eq (c : Cobs) : c.silent = { c with oRdy := false } := rfl

/-- The pending zero is shown exactly when it is owed (43_cobs_decoder.md R165). -/
theorem Cobs.emitPendingZero_eq (c : Cobs) :
    c.emitPendingZero = { c with oData := if c.zp then 0 else c.oData, oRdy := c.zp } := by
  cases h : c.zp <;> simp [Cobs.emitPendingZero, h, Cobs.emit, Cobs.silent]

@[simp] theorem Rs.store_idx (i : Nat) (b : Octet) (r : Rs) : (r.store i b).idx = r.idx := rfl
@[simp] theorem Rs.store_done (i : Nat) (b : Octet) (r : Rs) : (r.store i b).done = r.done := rfl
@[simp] theorem Rs.store_length (i : Nat) (b : Octet) (r : Rs) :
    (r.store i b).chunks.length = r.chunks.length := by simp [Rs.store]

/-- A chunk read after a store to its own index is the chunk stored. -/
theorem Rs.store_read_same {i : Nat} (b : Octet) {r : Rs} (h : i < r.chunks.length) :
    (r.store i b).chunks[i]? = some b := by simp [Rs.store, h]

/-- A store leaves every chunk of another index alone. -/
theorem Rs.store_read_other {i j : Nat} (b : Octet) (r : Rs) (h : i ≠ j) :
    (r.store i b).chunks[j]? = r.chunks[j]? := by simp [Rs.store, h]

@[simp] theorem fitChunks_length (k : Nat) (l : List Octet) : (fitChunks k l).length = k := by
  induction k generalizing l with
  | zero => rfl
  | succ k ih => cases l <;> simp [fitChunks, ih]

/-! ### The inputs of a tick -/

theorem State.driven_eq_inputsAt_zero (s : State) : s.driven = s.inputsAt 0 := by
  cases h : s.stimulus <;> simp [State.driven, State.inputsAt, h]

/-- The inputs move on by one tick when the registers are latched. -/
@[simp] theorem State.latch_inputsAt (s : State) (a : Rx) (b : Tx) (c : Cobs) (d : Rs) (n : Nat) :
    (s.latch a b c d).inputsAt n = s.inputsAt (n + 1) := by
  simp [State.inputsAt, Nat.add_comm, Nat.add_left_comm]

/-! ### The commit -/

@[simp] theorem commit_next (s a b c d : State) :
    commit s (.next a) (.next b) (.next c) (.next d) = .next (s.latch a.rx b.tx c.cobs d.rs) := rfl

/-- A commit answers a next state only where all four operations do. -/
theorem commit_next_inv {s t : State} {ra rb rc rd : Result} (h : commit s ra rb rc rd = .next t) :
    ∃ a b c d : State, ra = .next a ∧ rb = .next b ∧ rc = .next c ∧ rd = .next d ∧
      t = s.latch a.rx b.tx c.cobs d.rs := by
  cases ra <;> cases rb <;> cases rc <;> cases rd <;> simp [commit] at h ⊢
  exact h.symm

end Sys2Proof.Machine
end

