-- ==== Sys2Proof/Laws/PerInstr.lean ====
section
/-! SUPPORT. Facts about every operation as syntax, one lemma per constructor of Instr. -/

namespace Sys2Proof.Laws

/-- The encoding of an operation matches its row of the opcode table (30_encoding.md R90). -/
def RowMatch.Statement (i : Instr) : Prop :=
  ∃ row, opcodeTable[i.rowIndex]? = some row ∧ row.matches (encode i) = true

theorem RowMatch.rxReset (s : BitVec 3) (p q a l : Bool) :
    RowMatch.Statement (.rxReset s p q a l) :=
  ⟨_, rfl, by revert s p q a l; decide⟩

theorem RowMatch.rxIdleWait (p a l : Bool) :
    RowMatch.Statement (.rxIdleWait p a l) :=
  ⟨_, rfl, by revert p a l; decide⟩

theorem RowMatch.rxIdleDetect (p a l : Bool) :
    RowMatch.Statement (.rxIdleDetect p a l) :=
  ⟨_, rfl, by revert p a l; decide⟩

theorem RowMatch.rxStartWait (q a l : Bool) :
    RowMatch.Statement (.rxStartWait q a l) :=
  ⟨_, rfl, by revert q a l; decide⟩

theorem RowMatch.rxStartGo (q a l : Bool) :
    RowMatch.Statement (.rxStartGo q a l) :=
  ⟨_, rfl, by revert q a l; decide⟩

theorem RowMatch.rxDataWait (q a l : Bool) :
    RowMatch.Statement (.rxDataWait q a l) :=
  ⟨_, rfl, by revert q a l; decide⟩

theorem RowMatch.rxDataShift (q a : Bool) :
    RowMatch.Statement (.rxDataShift q a) :=
  ⟨_, rfl, by revert q a; decide⟩

theorem RowMatch.rxDataLast (q a : Bool) :
    RowMatch.Statement (.rxDataLast q a) :=
  ⟨_, rfl, by revert q a; decide⟩

theorem RowMatch.rxStopWait (q a l : Bool) :
    RowMatch.Statement (.rxStopWait q a l) :=
  ⟨_, rfl, by revert q a l; decide⟩

theorem RowMatch.rxStopOk (a l : Bool) :
    RowMatch.Statement (.rxStopOk a l) :=
  ⟨_, rfl, by revert a l; decide⟩

theorem RowMatch.rxStopFerr (a l : Bool) :
    RowMatch.Statement (.rxStopFerr a l) :=
  ⟨_, rfl, by revert a l; decide⟩

theorem RowMatch.rxFullAck (p q l : Bool) :
    RowMatch.Statement (.rxFullAck p q l) :=
  ⟨_, rfl, by revert p q l; decide⟩

theorem RowMatch.rxFullOverrun (p l : Bool) :
    RowMatch.Statement (.rxFullOverrun p l) :=
  ⟨_, rfl, by revert p l; decide⟩

theorem RowMatch.rxFullHold (p l : Bool) :
    RowMatch.Statement (.rxFullHold p l) :=
  ⟨_, rfl, by revert p l; decide⟩

theorem RowMatch.rxErrorHold (p q a l : Bool) :
    RowMatch.Statement (.rxErrorHold p q a l) :=
  ⟨_, rfl, by revert p q a l; decide⟩

theorem RowMatch.txReset (s : BitVec 3) (p q l : Bool) :
    RowMatch.Statement (.txReset s p q l) :=
  ⟨_, rfl, by revert s p q l; decide⟩

theorem RowMatch.txIdleHold (p l : Bool) :
    RowMatch.Statement (.txIdleHold p l) :=
  ⟨_, rfl, by revert p l; decide⟩

theorem RowMatch.txIdleLoad (p l : Bool) :
    RowMatch.Statement (.txIdleLoad p l) :=
  ⟨_, rfl, by revert p l; decide⟩

theorem RowMatch.txStartWait (q l : Bool) :
    RowMatch.Statement (.txStartWait q l) :=
  ⟨_, rfl, by revert q l; decide⟩

theorem RowMatch.txStartDrive (q l : Bool) :
    RowMatch.Statement (.txStartDrive q l) :=
  ⟨_, rfl, by revert q l; decide⟩

theorem RowMatch.txDataWait (q l : Bool) :
    RowMatch.Statement (.txDataWait q l) :=
  ⟨_, rfl, by revert q l; decide⟩

theorem RowMatch.txDataShift (q : Bool) :
    RowMatch.Statement (.txDataShift q) :=
  ⟨_, rfl, by revert q; decide⟩

theorem RowMatch.txDataLast (q : Bool) :
    RowMatch.Statement (.txDataLast q) :=
  ⟨_, rfl, by revert q; decide⟩

theorem RowMatch.txStopWait (q l : Bool) :
    RowMatch.Statement (.txStopWait q l) :=
  ⟨_, rfl, by revert q l; decide⟩

theorem RowMatch.txStopDrive (q l : Bool) :
    RowMatch.Statement (.txStopDrive q l) :=
  ⟨_, rfl, by revert q l; decide⟩

theorem RowMatch.cobsIdle (s : BitVec 3) (l : Bool) (v : BitVec 2) :
    RowMatch.Statement (.cobsIdle s l v) :=
  ⟨_, rfl, by revert s l v; decide⟩

theorem RowMatch.cobsLenOne (l : Bool) :
    RowMatch.Statement (.cobsLenOne l) :=
  ⟨_, rfl, by revert l; decide⟩

theorem RowMatch.cobsLenN (l : Bool) :
    RowMatch.Statement (.cobsLenN l) :=
  ⟨_, rfl, by revert l; decide⟩

theorem RowMatch.cobsLenZero (l : Bool) :
    RowMatch.Statement (.cobsLenZero l) :=
  ⟨_, rfl, by revert l; decide⟩

theorem RowMatch.cobsDataMid (v : BitVec 2) :
    RowMatch.Statement (.cobsDataMid v) :=
  ⟨_, rfl, by revert v; decide⟩

theorem RowMatch.cobsDataLast (v : BitVec 2) :
    RowMatch.Statement (.cobsDataLast v) :=
  ⟨_, rfl, by revert v; decide⟩

theorem RowMatch.rsHold (l : Bool) :
    RowMatch.Statement (.rsHold l) :=
  ⟨_, rfl, by revert l; decide⟩

theorem RowMatch.rsWriteMid (a : Bool) :
    RowMatch.Statement (.rsWriteMid a) :=
  ⟨_, rfl, by revert a; decide⟩

theorem RowMatch.rsWriteLast (a : Bool) :
    RowMatch.Statement (.rsWriteLast a) :=
  ⟨_, rfl, by revert a; decide⟩

theorem RowMatch.rsAck (l : Bool) :
    RowMatch.Statement (.rsAck l) :=
  ⟨_, rfl, by revert l; decide⟩

end Sys2Proof.Laws
end

