-- ==== Sys2Proof/Laws/Step.lean ====
section
/-! SUPPORT. What a step and a run can do, said once. -/

namespace Sys2Proof.Machine

theorem step_eq_tickOnce (s : State) : step s = tickOnce s := rfl

/-- A step that answers a next state ran four operations in the old state and latched one machine's registers from
each. -/
theorem step_next_inv {s t : State} (h : step s = .next t) :
    ∃ (a b c d : Instr) (sa sb sc sd : State),
      fetch .rx s = some a ∧ fetch .tx s = some b ∧ fetch .cobs s = some c ∧ fetch .rs s = some d ∧
      exec a s = .next sa ∧ exec b s = .next sb ∧ exec c s = .next sc ∧ exec d s = .next sd ∧
      t = s.latch sa.rx sb.tx sc.cobs sd.rs := by
  simp only [step, tickOnce] at h
  split at h
  next a b c d ha hb hc hd =>
    obtain ⟨sa, sb, sc, sd, h1, h2, h3, h4, rfl⟩ := commit_next_inv h
    exact ⟨a, b, c, d, sa, sb, sc, sd, ha, hb, hc, hd, h1, h2, h3, h4, rfl⟩
  next => cases h

/-- No step writes the parameters. -/
theorem step_params {s t : State} (h : step s = .next t) : t.params = s.params := by
  obtain ⟨_, _, _, _, _, _, _, _, -, -, -, -, -, -, -, -, rfl⟩ := step_next_inv h
  rfl

/-- A step moves the inputs on by one tick. -/
theorem step_inputsAt {s t : State} (h : step s = .next t) (n : Nat) :
    t.inputsAt n = s.inputsAt (n + 1) := by
  obtain ⟨_, _, _, _, _, _, _, _, -, -, -, -, -, -, -, -, rfl⟩ := step_next_inv h
  simp

@[simp] theorem run_zero (s : State) : run 0 s = .next s := rfl

theorem run_succ_of_next {s t : State} (n : Nat) (h : step s = .next t) :
    run (n + 1) s = run n t := by simp [run, h]

/-- A run of `n + 1` ticks is a step and a run of `n` ticks. -/
theorem run_succ_inv {n : Nat} {s t : State} (h : run (n + 1) s = .next t) :
    ∃ u, step s = .next u ∧ run n u = .next t := by
  simp only [run] at h
  split at h
  next u hu => exact ⟨u, hu, h⟩
  all_goals cases h

/-- A run of `m + n` ticks is a run of `m` and then a run of `n` ticks. -/
theorem run_add {m n : Nat} {s t : State} (h : run m s = .next t) : run (m + n) s = run n t := by
  induction m generalizing s with
  | zero => cases h; simp
  | succ m ih =>
    obtain ⟨u, hu, hr⟩ := run_succ_inv h
    rw [show m + 1 + n = m + n + 1 by omega, run_succ_of_next _ hu, ih hr]

/-- A run of `n + 1` ticks is a run of `n` ticks and a step. -/
theorem run_succ_last {n : Nat} {s t : State} (h : run (n + 1) s = .next t) :
    ∃ u, run n s = .next u ∧ step u = .next t := by
  induction n generalizing s with
  | zero =>
    obtain ⟨u, hu, hr⟩ := run_succ_inv h
    cases hr
    exact ⟨s, rfl, hu⟩
  | succ n ih =>
    obtain ⟨u, hu, hr⟩ := run_succ_inv h
    obtain ⟨v, hv, hs⟩ := ih hr
    exact ⟨v, by rw [run_succ_of_next _ hu, hv], hs⟩

/-- No run writes the parameters. -/
theorem run_params {n : Nat} {s t : State} (h : run n s = .next t) : t.params = s.params := by
  induction n generalizing s with
  | zero => cases h; rfl
  | succ n ih =>
    obtain ⟨u, hu, hr⟩ := run_succ_inv h
    rw [ih hr, step_params hu]

/-- A run moves the inputs on by its length. -/
theorem run_inputsAt {n : Nat} {s t : State} (h : run n s = .next t) (j : Nat) :
    t.inputsAt j = s.inputsAt (n + j) := by
  induction n generalizing s with
  | zero => cases h; simp
  | succ n ih =>
    obtain ⟨u, hu, hr⟩ := run_succ_inv h
    rw [ih hr, step_inputsAt hu]
    congr 1
    omega

/-- The model's run is the host's run of the same machine. -/
theorem run_eq_core_run (n : Nat) (s : State) : run n s = Host.Core.run Sys2Proof.core n s := by
  induction n generalizing s with
  | zero => rfl
  | succ n ih =>
    simp only [run, Host.Core.run, Sys2Proof.core]
    cases step s with
    | next t => exact ih t
    | fault f => rfl
    | refused r => rfl

end Sys2Proof.Machine
end

