-- ==== Sys2Proof/Laws/Select.lean ====
section
/-! SUPPORT. The selector word and its fields, and which operation each machine selects, said once. -/

namespace Sys2Proof

theorem Agent.ofCode_code (m : Agent) : Agent.ofCode m.code = m := by cases m <;> rfl

/-- Every bit of a selector word, by its field (30_encoding.md R90). -/
theorem Selector.toWord_getLsbD (x : Selector) (i : Nat) :
    x.toWord.getLsbD i =
      if i < 2 then x.v.getLsbD i
      else if i < 3 then (BitVec.ofBool x.l).getLsbD (i - 2)
      else if i < 4 then (BitVec.ofBool x.a).getLsbD (i - 3)
      else if i < 5 then (BitVec.ofBool x.q).getLsbD (i - 4)
      else if i < 6 then (BitVec.ofBool x.p).getLsbD (i - 5)
      else if i < 9 then x.s.getLsbD (i - 6)
      else if i < 10 then (BitVec.ofBool x.r).getLsbD (i - 9)
      else x.m.code.getLsbD (i - 10) := by
  unfold Selector.toWord
  have h := fun (n k : Nat) (a : BitVec n) (b : BitVec k) (j : Nat) =>
    BitVec.getLsbD_append (x := a) (y := b) (i := j)
  rw [h, h, h, h, h, h, h]
  split_ifs <;> first | rfl | omega

/-- The fields of the word of a selector are the selector's. -/
theorem Selector.ofWord_toWord (x : Selector) : Selector.ofWord x.toWord = x := by
  have hb : ∀ b : Bool, (BitVec.ofBool b).getLsbD 0 = b := by decide
  have hm : x.toWord.extractLsb' 10 2 = x.m.code := by
    apply BitVec.eq_of_getLsbD_eq
    intro i hi
    rw [BitVec.getLsbD_extractLsb', Selector.toWord_getLsbD]
    simp [hi, show ¬10 + i < 2 by omega, show ¬10 + i < 3 by omega, show ¬10 + i < 4 by omega,
      show ¬10 + i < 5 by omega, show ¬10 + i < 6 by omega, show ¬10 + i < 9 by omega]
  have hs : x.toWord.extractLsb' 6 3 = x.s := by
    apply BitVec.eq_of_getLsbD_eq
    intro i hi
    rw [BitVec.getLsbD_extractLsb', Selector.toWord_getLsbD]
    simp [hi, show ¬6 + i < 2 by omega, show ¬6 + i < 3 by omega, show ¬6 + i < 4 by omega,
      show ¬6 + i < 5 by omega, show 6 + i < 9 by omega]
  have hv : x.toWord.extractLsb' 0 2 = x.v := by
    apply BitVec.eq_of_getLsbD_eq
    intro i hi
    rw [BitVec.getLsbD_extractLsb', Selector.toWord_getLsbD]
    simp [hi]
  unfold Selector.ofWord
  rw [hm, hs, hv, Agent.ofCode_code]
  rw [(x.toWord_getLsbD 9).trans (hb _), (x.toWord_getLsbD 5).trans (hb _),
    (x.toWord_getLsbD 4).trans (hb _), (x.toWord_getLsbD 3).trans (hb _),
    (x.toWord_getLsbD 2).trans (hb _)]

/-- Decoding a selector's word is decoding the selector. -/
theorem decode_toWord (x : Selector) : decode x.toWord = decodeSelector x := by
  rw [decode, Selector.ofWord_toWord]

end Sys2Proof

namespace Sys2Proof.Machine

/-- The operation RX selects (41_uart_rx.md R110, R111). -/
def rxOperation (st : RxState) (r p q a l : Bool) : Instr :=
  if r then .rxReset st.code p q a l
  else
    match st with
    | .idle => if q then .rxIdleWait p a l else .rxIdleDetect p a l
    | .start => if p then .rxStartGo q a l else .rxStartWait q a l
    | .data => if p then (if l then .rxDataLast q a else .rxDataShift q a) else .rxDataWait q a l
    | .stop => if p then (if q then .rxStopOk a l else .rxStopFerr a l) else .rxStopWait q a l
    | .full =>
      if a then .rxFullAck p q l else if q then .rxFullHold p l else .rxFullOverrun p l
    | .error => .rxErrorHold p q a l

/-- The operation TX selects (42_uart_tx.md R140, R141). -/
def txOperation (st : TxState) (r p q l : Bool) : Instr :=
  if r then .txReset st.code p q l
  else
    match st with
    | .idle => if q then .txIdleLoad p l else .txIdleHold p l
    | .start => if p then .txStartDrive q l else .txStartWait q l
    | .data => if p then (if l then .txDataLast q else .txDataShift q) else .txDataWait q l
    | .stop => if p then .txStopDrive q l else .txStopWait q l

/-- The operation COBS selects (43_cobs_decoder.md R160, R161). -/
def cobsOperation (st : CobsState) (p l : Bool) (b : Octet) : Instr :=
  if p then
    match st with
    | .awaitLen =>
      if b = 0 then .cobsLenZero l else if b = 1 then .cobsLenOne l else .cobsLenN l
    | .inBlock => if l then .cobsDataLast (valueClass b) else .cobsDataMid (valueClass b)
  else .cobsIdle st.code l (valueClass b)

/-- The operation RS selects (44_restrider.md R180, R181). -/
def rsOperation (p a l : Bool) : Instr :=
  if p then (if l then .rsWriteLast a else .rsWriteMid a)
  else if a then .rsAck l else .rsHold l

theorem decodeSelector_rx (st : RxState) (r p q a l : Bool) :
    decodeSelector ⟨.rx, r, st.code, p, q, a, l, 0⟩ = .ok (rxOperation st r p q a l) := by
  cases st <;> cases r <;> rfl

theorem decodeSelector_tx (st : TxState) (r p q l : Bool) :
    decodeSelector ⟨.tx, r, st.code, p, q, false, l, 0⟩ = .ok (txOperation st r p q l) := by
  cases st <;> cases r <;> rfl

theorem decodeSelector_cobs (st : CobsState) (p l : Bool) (b : Octet) :
    decodeSelector ⟨.cobs, false, st.code, p, false, false, l, valueClass b⟩ =
      .ok (cobsOperation st p l b) := by
  by_cases h0 : b = 0
  · subst h0; cases st <;> cases p <;> cases l <;> rfl
  · by_cases h1 : b = 1
    · subst h1; cases st <;> cases p <;> cases l <;> rfl
    · simp only [valueClass, cobsOperation, h0, h1, if_false]
      cases st <;> cases p <;> cases l <;> rfl

theorem decodeSelector_rs (p a l : Bool) :
    decodeSelector ⟨.rs, false, 0, p, false, a, l, 0⟩ = .ok (rsOperation p a l) := rfl

/-- What RX performs in a tick. -/
theorem fetch_rx (s : State) :
    fetch .rx s = some (rxOperation s.rx.state s.rxRst s.rxStb s.rxI s.rxAck s.rxLast) := by
  simp only [fetch, selector, selectorRx, decodeSelector_rx, Except.toOption]

/-- What TX performs in a tick. -/
theorem fetch_tx (s : State) :
    fetch .tx s = some (txOperation s.tx.state s.txRst s.txStb s.txRdy s.txLast) := by
  simp only [fetch, selector, selectorTx, decodeSelector_tx, Except.toOption]

/-- What COBS performs in a tick. -/
theorem fetch_cobs (s : State) :
    fetch .cobs s = some (cobsOperation s.cobs.state s.iRdy s.cobsLast s.iData) := by
  simp only [fetch, selector, selectorCobs, decodeSelector_cobs, Except.toOption]

/-- What RS performs in a tick. -/
theorem fetch_rs (s : State) :
    fetch .rs s = some (rsOperation s.iLatch s.outReadAck s.rsLast) := by
  simp only [fetch, selector, selectorRs, decodeSelector_rs, Except.toOption]

/-- The step, with the four operations it runs. -/
theorem step_eq_commit (s : State) :
    step s =
      commit s (exec (rxOperation s.rx.state s.rxRst s.rxStb s.rxI s.rxAck s.rxLast) s)
        (exec (txOperation s.tx.state s.txRst s.txStb s.txRdy s.txLast) s)
        (exec (cobsOperation s.cobs.state s.iRdy s.cobsLast s.iData) s)
        (exec (rsOperation s.iLatch s.outReadAck s.rsLast) s) := by
  simp only [step, tickOnce, fetch_rx, fetch_tx, fetch_cobs, fetch_rs]

end Sys2Proof.Machine
end

