-- ==== Sys2Proof/Tests/Slice0.lean ====
section
/-! SUPPORT. The model's own tests: ill-formed terms refused, words written out from the spec decoded, one step for
each operation with the values of the spec's own trace tables (95_test_vectors.md), and for every statement that
has hypotheses a state and operands that meet them. -/

namespace Sys2Proof.Tests

open Sys2Proof Sys2Proof.Machine

/-! ### WellFormed refuses, one ill-formed term for each check -/

theorem test_illformed_rx_state : (Instr.rxReset 6 false false false false).wellFormed = false := by decide
theorem test_illformed_tx_state : (Instr.txReset 4 false false false).wellFormed = false := by decide
theorem test_illformed_cobs_state : (Instr.cobsIdle 2 false 0).wellFormed = false := by decide
theorem test_illformed_cobs_idle_class : (Instr.cobsIdle 0 false 3).wellFormed = false := by decide
theorem test_illformed_cobs_mid_class : (Instr.cobsDataMid 3).wellFormed = false := by decide
theorem test_illformed_cobs_last_class : (Instr.cobsDataLast 3).wellFormed = false := by decide

/-! ### Words written out bit by bit from 30_encoding.md R91 to R94, every constructor once -/

theorem test_decode_rx :
    decode 0b00_1_101_0_1_1_0_00#12 = .ok (.rxReset 5 false true true false) ∧
    decode 0b00_0_000_1_1_0_0_00#12 = .ok (.rxIdleWait true false false) ∧
    decode 0b00_0_000_0_0_1_0_00#12 = .ok (.rxIdleDetect false true false) ∧
    decode 0b00_0_001_0_1_0_0_00#12 = .ok (.rxStartWait true false false) ∧
    decode 0b00_0_001_1_0_1_0_00#12 = .ok (.rxStartGo false true false) ∧
    decode 0b00_0_010_0_0_0_1_00#12 = .ok (.rxDataWait false false true) ∧
    decode 0b00_0_010_1_1_0_0_00#12 = .ok (.rxDataShift true false) ∧
    decode 0b00_0_010_1_0_1_1_00#12 = .ok (.rxDataLast false true) ∧
    decode 0b00_0_011_0_1_0_0_00#12 = .ok (.rxStopWait true false false) ∧
    decode 0b00_0_011_1_1_1_0_00#12 = .ok (.rxStopOk true false) ∧
    decode 0b00_0_011_1_0_0_1_00#12 = .ok (.rxStopFerr false true) ∧
    decode 0b00_0_100_0_1_1_0_00#12 = .ok (.rxFullAck false true false) ∧
    decode 0b00_0_100_1_0_0_0_00#12 = .ok (.rxFullOverrun true false) ∧
    decode 0b00_0_100_0_1_0_1_00#12 = .ok (.rxFullHold false true) ∧
    decode 0b00_0_101_1_1_1_0_00#12 = .ok (.rxErrorHold true true true false) := by decide

theorem test_decode_tx :
    decode 0b01_1_011_1_0_0_1_00#12 = .ok (.txReset 3 true false true) ∧
    decode 0b01_0_000_1_0_0_0_00#12 = .ok (.txIdleHold true false) ∧
    decode 0b01_0_000_1_1_0_0_00#12 = .ok (.txIdleLoad true false) ∧
    decode 0b01_0_001_0_1_0_0_00#12 = .ok (.txStartWait true false) ∧
    decode 0b01_0_001_1_0_0_1_00#12 = .ok (.txStartDrive false true) ∧
    decode 0b01_0_010_0_0_0_1_00#12 = .ok (.txDataWait false true) ∧
    decode 0b01_0_010_1_1_0_0_00#12 = .ok (.txDataShift true) ∧
    decode 0b01_0_010_1_0_0_1_00#12 = .ok (.txDataLast false) ∧
    decode 0b01_0_011_0_1_0_0_00#12 = .ok (.txStopWait true false) ∧
    decode 0b01_0_011_1_0_0_0_00#12 = .ok (.txStopDrive false false) := by decide

theorem test_decode_cobs_rs :
    decode 0b10_0_001_0_0_0_1_10#12 = .ok (.cobsIdle 1 true 2) ∧
    decode 0b10_0_000_1_0_0_0_01#12 = .ok (.cobsLenOne false) ∧
    decode 0b10_0_000_1_0_0_1_00#12 = .ok (.cobsLenN true) ∧
    decode 0b10_0_000_1_0_0_0_10#12 = .ok (.cobsLenZero false) ∧
    decode 0b10_0_001_1_0_0_0_10#12 = .ok (.cobsDataMid 2) ∧
    decode 0b10_0_001_1_0_0_1_01#12 = .ok (.cobsDataLast 1) ∧
    decode 0b11_0_000_0_0_0_1_00#12 = .ok (.rsHold true) ∧
    decode 0b11_0_000_1_0_1_0_00#12 = .ok (.rsWriteMid true) ∧
    decode 0b11_0_000_1_0_0_1_00#12 = .ok (.rsWriteLast false) ∧
    decode 0b11_0_000_0_0_1_0_00#12 = .ok (.rsAck false) := by decide

/-- R95's reserved values, one of each, refused by name. -/
theorem test_decode_refuses :
    decode 0b00_0_110_0_0_0_0_00#12 = .error .reservedState ∧
    decode 0b01_0_100_0_0_0_0_00#12 = .error .reservedState ∧
    decode 0b10_0_010_0_0_0_0_00#12 = .error .reservedState ∧
    decode 0b11_0_001_0_0_0_0_00#12 = .error .reservedState ∧
    decode 0b10_0_000_0_0_0_0_11#12 = .error .reservedValueClass ∧
    decode 0b01_0_000_0_0_1_0_00#12 = .error .fixedFieldSet ∧
    decode 0b10_1_000_0_0_0_0_00#12 = .error .fixedFieldSet ∧
    decode 0b11_0_000_0_1_0_0_00#12 = .error .fixedFieldSet ∧
    decode 0b00_0_000_0_0_0_0_01#12 = .error .fixedFieldSet ∧
    decodeNat 0x1000 = .error .wordTooWide := by decide

/-- Every row's word, placed after reset, is what its machine selects next. -/
theorem test_placed_after_reset :
    (opcodeTable.all fun row =>
      match decodeTableWord 16 row.pattern.toNat with
      | some i => fetch i.agent (State.reset.withFetchWord 16 row.pattern.toNat) == some i
      | none => false) = true := by decide

/-! ### One step for each operation -/

/-- `D = 4`, `K = 3`, every machine on its own inputs: the rig of V10, V25, V30, P4 and P5. -/
def rig : Params := { dRx := 4, dTx := 4, k := 3, wiring := Wiring.separate }

/-- The rig after initialisation, with one tick of inputs. -/
def bench (i : Inputs) : State := State.initial rig DataDraw.zero [i]

/-- Whether an outcome is a next state. -/
def answers : Result → Bool
  | .next _ => true
  | _ => false

/-- The next state of a step. -/
def after (s : State) : State :=
  match step s with
  | .next t => t
  | _ => s

/-- One step of RX from the given registers, under the given line, acknowledge and reset. -/
def rxStep (r : Rx) (line ack rst : Bool) : Rx :=
  (after { bench { Inputs.idle with rxI := line, rxAck := ack, rxRst := rst } with rx := r }).rx

/-- One step of TX. -/
def txStep (t : Tx) (rdy : Bool) (data : Octet) (rst : Bool) : Tx :=
  (after { bench { Inputs.idle with txRdy := rdy, txData := data, txRst := rst } with tx := t }).tx

/-- One step of COBS. -/
def cobsStep (c : Cobs) (rdy : Bool) (b : Octet) : Cobs :=
  (after { bench { Inputs.idle with iRdy := rdy, iData := b } with cobs := c }).cobs

/-- One step of RS. -/
def rsStep (r : Rs) (latch : Bool) (b : Octet) (ack : Bool) : Rs :=
  (after { bench { Inputs.idle with iLatch := latch, rsData := b, outReadAck := ack } with rs := r }).rs

-- V10, ticks 0, 2, 3, 5, 6, 13, 37, 38, 41, 42, 44; P4 (a), ticks 41, 45, 46; V16, tick 44.
theorem test_rx_idle_wait : rxStep ⟨.idle, 0, 0, 0⟩ true false false = ⟨.idle, 3, 0, 0⟩ := by decide
theorem test_rx_idle_detect : rxStep ⟨.idle, 2, 0, 0⟩ false false false = ⟨.start, 2, 0, 0⟩ := by decide
theorem test_rx_start_wait : rxStep ⟨.start, 2, 0, 0⟩ false false false = ⟨.start, 1, 0, 0⟩ := by decide
theorem test_rx_start_go : rxStep ⟨.start, 0, 0, 0⟩ false false false = ⟨.data, 3, 0, 0⟩ := by decide
theorem test_rx_data_wait : rxStep ⟨.data, 3, 0, 0⟩ false false false = ⟨.data, 2, 0, 0⟩ := by decide
theorem test_rx_data_shift : rxStep ⟨.data, 0, 1, 0⟩ true false false = ⟨.data, 3, 2, 0x80⟩ := by decide
theorem test_rx_data_last : rxStep ⟨.data, 0, 7, 0xcc⟩ false false false = ⟨.stop, 3, 0, 0x66⟩ := by decide
theorem test_rx_stop_wait : rxStep ⟨.stop, 3, 0, 0x66⟩ true false false = ⟨.stop, 2, 0, 0x66⟩ := by decide
theorem test_rx_stop_ok : rxStep ⟨.stop, 0, 0, 0x66⟩ true false false = ⟨.full, 3, 0, 0x66⟩ := by decide
theorem test_rx_full_hold : rxStep ⟨.full, 3, 0, 0x66⟩ true false false = ⟨.full, 2, 0, 0x66⟩ := by decide
theorem test_rx_full_ack : rxStep ⟨.full, 1, 0, 0x66⟩ true true false = ⟨.idle, 0, 0, 0x66⟩ := by decide
theorem test_rx_stop_ferr : rxStep ⟨.stop, 0, 0, 0x55⟩ false true false = ⟨.error, 3, 0, 0x55⟩ := by decide
theorem test_rx_error_hold : rxStep ⟨.error, 0, 0, 0x55⟩ true true false = ⟨.error, 3, 0, 0x55⟩ := by decide
theorem test_rx_reset : rxStep ⟨.error, 3, 0, 0x55⟩ true true true = ⟨.idle, 0, 0, 0x55⟩ := by decide
theorem test_rx_full_overrun : rxStep ⟨.full, 1, 0, 0x66⟩ false false false = ⟨.error, 0, 0, 0x66⟩ := by decide

-- P2, ticks 0, 1, 4, 5, 8, 36, 37, 40, 41; V28, tick 14.
theorem test_tx_idle_load : txStep ⟨.idle, 0, 0, 0, true⟩ true 0xa5 false = ⟨.start, 3, 0, 0xa5, true⟩ := by decide
theorem test_tx_start_wait :
    txStep ⟨.start, 3, 0, 0xa5, true⟩ false 0 false = ⟨.start, 2, 0, 0xa5, true⟩ := by decide
theorem test_tx_start_drive :
    txStep ⟨.start, 0, 0, 0xa5, true⟩ false 0 false = ⟨.data, 3, 0, 0xa5, false⟩ := by decide
theorem test_tx_data_wait :
    txStep ⟨.data, 3, 0, 0xa5, false⟩ false 0 false = ⟨.data, 2, 0, 0xa5, false⟩ := by decide
theorem test_tx_data_shift :
    txStep ⟨.data, 0, 0, 0xa5, false⟩ false 0 false = ⟨.data, 3, 1, 0x52, true⟩ := by decide
theorem test_tx_data_last :
    txStep ⟨.data, 0, 7, 0x01, false⟩ false 0 false = ⟨.stop, 3, 0, 0, true⟩ := by decide
theorem test_tx_stop_wait : txStep ⟨.stop, 3, 0, 0, true⟩ false 0 false = ⟨.stop, 2, 0, 0, true⟩ := by decide
theorem test_tx_stop_drive : txStep ⟨.stop, 0, 0, 0, true⟩ false 0 false = ⟨.idle, 3, 0, 0, true⟩ := by decide
theorem test_tx_idle_hold : txStep ⟨.idle, 3, 0, 0, true⟩ false 0 false = ⟨.idle, 2, 0, 0, true⟩ := by decide
theorem test_tx_reset : txStep ⟨.data, 2, 2, 0x29, false⟩ true 0 true = ⟨.idle, 0, 0, 0x29, true⟩ := by decide

-- V31, ticks 2, 1, 4, 5, 6; R168 for a block of length 255; R166's example.
theorem test_cobs_idle :
    cobsStep ⟨.awaitLen, 1, 0, true, 0, true⟩ false 0 = ⟨.awaitLen, 1, 0, true, 0, false⟩ := by decide
theorem test_cobs_len_one :
    cobsStep ⟨.awaitLen, 1, 0, true, 7, false⟩ true 1 = ⟨.awaitLen, 1, 0, true, 0, true⟩ := by decide
theorem test_cobs_len_n :
    cobsStep ⟨.awaitLen, 1, 0, true, 0, true⟩ true 3 = ⟨.inBlock, 3, 0, false, 0, true⟩ := by decide
theorem test_cobs_data_mid :
    cobsStep ⟨.inBlock, 3, 0, false, 0, true⟩ true 0 = ⟨.inBlock, 3, 1, false, 0, true⟩ := by decide
theorem test_cobs_data_last :
    cobsStep ⟨.inBlock, 3, 1, false, 0, true⟩ true 7 = ⟨.awaitLen, 3, 0, true, 7, true⟩ := by decide
theorem test_cobs_data_last_of_255 :
    cobsStep ⟨.inBlock, 255, 253, false, 0, true⟩ true 7 = ⟨.awaitLen, 255, 0, false, 7, true⟩ := by decide
theorem test_cobs_len_zero :
    step (bench { Inputs.idle with iRdy := true, iData := 0 }) = .fault .cobsZeroLength := rfl

-- P5, ticks 3, 6, 8, 4.
theorem test_rs_hold :
    rsStep ⟨0, [0x80, 0x40, 0x20], true⟩ false 0 false = ⟨0, [0x80, 0x40, 0x20], true⟩ := by decide
theorem test_rs_write_mid :
    rsStep ⟨0, [0x80, 0x40, 0x20], false⟩ true 0x11 false = ⟨1, [0x11, 0x40, 0x20], false⟩ := by decide
theorem test_rs_write_last_over_ack :
    rsStep ⟨2, [0x11, 0x22, 0x20], false⟩ true 0x33 true = ⟨0, [0x11, 0x22, 0x33], true⟩ := by decide
theorem test_rs_ack :
    rsStep ⟨0, [0x80, 0x40, 0x20], true⟩ false 0 true = ⟨0, [0x80, 0x40, 0x20], false⟩ := by decide

/-! ### Formats and divider -/

/-- V36 and R84: two messages back to back, and the pending zero. -/
theorem test_decode_stream :
    decodeStream [0x03, 0x11, 0x22, 0x02, 0x33] = ([0x11, 0x22, 0x00, 0x33], true) := by decide

/-- R80, R97: the levels of `FRAME(0x66)@1`. -/
theorem test_frame :
    (List.range 11).map (frameLevel 1 0x66) =
      [false, false, true, true, false, false, true, true, false, true, true] := by decide

/-- V6: `tick_down` with `D = 4` from 0. -/
theorem test_tick_down :
    [0, 3, 2, 1].map (tickDown · 4) = [3, 2, 1, 0] := by decide

theorem rat_floor_eq (q : ℚ) : q.floor = ⌊q⌋ := rfl

/-- V1a. -/
theorem test_div_config : divConfig 12000000 115200 none = .ok 104 := by
  norm_num [divConfig, divConfigWith, roundNearest, rat_floor_eq, checkDivisor]; rfl

/-- V3c: equality passes, and a tie goes to the even integer. -/
theorem test_div_config_equality : divConfig 10 4 (some 250000) = .ok 2 := by
  norm_num [divConfig, divConfigWith, roundNearest, rat_floor_eq, checkDivisor, errorPpm, abs_of_pos]
  rfl

/-- V3a: the error is negative and its absolute value counts. -/
theorem test_div_config_too_slow : divConfig 1000000 115200 (some 30000) = .error .frequencyError := by
  norm_num [divConfig, divConfigWith, roundNearest, rat_floor_eq, checkDivisor, errorPpm, abs_of_neg]

/-- V4b. -/
theorem test_div_config_too_high : divConfig 1 2 none = .error .targetRateTooHigh := by
  norm_num [divConfig, divConfigWith, roundNearest, rat_floor_eq, checkDivisor]

/-! ### For every statement with hypotheses, a state and operands that meet them all -/

/-- The state after a run. -/
def reach (n : Nat) (s : State) : State :=
  match run n s with
  | .next t => t
  | _ => s

theorem run_eq_reach {n : Nat} {s : State} (h : answers (run n s) = true) :
    run n s = .next (reach n s) := by
  revert h
  unfold reach
  cases run n s <;> simp [answers]

theorem step_eq_after {s : State} (h : answers (step s) = true) : step s = .next (after s) := by
  revert h
  unfold after
  cases step s <;> simp [answers]

/-- The state codes and value classes at the ends of their ranges. -/
theorem witness_DecodeEncodeRoundTrip :
    (Instr.rxReset 5 true true true true).wellFormed = true ∧
    (Instr.txReset 3 true true true).wellFormed = true ∧
    (Instr.cobsIdle 1 true 2).wellFormed = true ∧ (Instr.cobsDataMid 0).wellFormed = true := by decide

theorem witness_DecodedWordReencodes : decode 0x864#12 = .ok (.cobsDataLast 0) := by decide

/-- The last row, on a word with its free bit set; the other row of the last clause is the row itself. -/
theorem witness_OpcodeTableSelectsOneRow :
    opcodeTable[34]? = some ⟨"RS.ACK", 0xc08, 0xffb⟩ ∧
    (Selector.ofWord 0xc0c#12).reserved = false ∧
    OpcodeRow.matches ⟨"RS.ACK", 0xc08, 0xffb⟩ 0xc0c#12 = true := by decide

theorem witness_StepRunsTheDecodedOperations :
    ∃ sa sb sc sd : State,
      decode (selector .rx (bench .idle)).toWord = .ok (.rxIdleWait true false false) ∧
      decode (selector .tx (bench .idle)).toWord = .ok (.txIdleHold true false) ∧
      decode (selector .cobs (bench .idle)).toWord = .ok (.cobsIdle 0 false 2) ∧
      decode (selector .rs (bench .idle)).toWord = .ok (.rsHold false) ∧
      exec (.rxIdleWait true false false) (bench .idle) = .next sa ∧
      exec (.txIdleHold true false) (bench .idle) = .next sb ∧
      exec (.cobsIdle 0 false 2) (bench .idle) = .next sc ∧
      exec (.rsHold false) (bench .idle) = .next sd :=
  ⟨_, _, _, _, by decide, by decide, by decide, by decide, rfl, rfl, rfl, rfl⟩

/-- An input tick that gives the decoder the zero length byte, and one that does not. -/
theorem witness_StepStopsOnlyOnZeroLength :
    ((bench { Inputs.idle with iRdy := true }).cobs.state = .awaitLen ∧
      (bench { Inputs.idle with iRdy := true }).iRdy = true ∧
      (bench { Inputs.idle with iRdy := true }).iData = 0) ∧
    ¬((bench .idle).cobs.state = .awaitLen ∧ (bench .idle).iRdy = true ∧ (bench .idle).iData = 0) := by
  decide

theorem witness_PlacedWordIsSelected :
    (Instr.rsWriteLast true).wellFormed = true ∧ (Instr.rxReset 5 true true true true).wellFormed = true := by
  decide

/-- Between them the two operations meet the premise of every clause. -/
theorem witness_MachinesOwnTheirRegisters :
    ∃ t u : State, exec (.txIdleLoad true false) (bench .idle) = .next t ∧
      exec (.rsAck false) (bench .idle) = .next u ∧
      (Instr.txIdleLoad true false).agent ≠ .rx ∧ (Instr.txIdleLoad true false).agent ≠ .cobs ∧
      (Instr.txIdleLoad true false).agent ≠ .rs ∧ (Instr.rsAck false).agent ≠ .tx :=
  ⟨_, _, rfl, rfl, by decide, by decide, by decide, by decide⟩

/-- The least `K`. -/
theorem witness_RsWritesStoreTheChunk :
    1 ≤ (State.initial { rig with k := 1 } DataDraw.zero []).params.k := by decide

theorem witness_InvariantHoldsInitially : Params.InRange ⟨1, 1, 1, Wiring.separate⟩ := by decide

/-- A data byte inside a block: the premise of the second conclusion is met too. -/
def inBlock : State :=
  { bench { Inputs.idle with iRdy := true, iData := 7 } with cobs := ⟨.inBlock, 2, 0, false, 0, false⟩ }

theorem witness_StepKeepsTheInvariant :
    inBlock.Inv ∧ step inBlock = .next (after inBlock) ∧ (after inBlock).oRdy = true :=
  ⟨by decide, rfl, by decide⟩

/-- Both resets in one tick. -/
def bothResets : State := bench { Inputs.idle with rxRst := true, txRst := true }

theorem witness_ResetInputsActOnTheirMachineOnly :
    step bothResets = .next (after bothResets) ∧ bothResets.rxRst = true ∧ bothResets.txRst = true :=
  ⟨rfl, by decide, by decide⟩

/-- A draw that is not zero. -/
def otherDraw : DataDraw := { rxShreg := 1, txShreg := 2, cobsLen := 3, oData := 4, chunks := [5, 6, 7] }

theorem witness_UnspecifiedDataIsNeverObserved :
    rig.InRange ∧ otherDraw ≠ DataDraw.zero ∧
    run 2 (State.initial rig otherDraw [.idle, .idle]) =
      .next (reach 2 (State.initial rig otherDraw [.idle, .idle])) :=
  ⟨by decide, by decide, run_eq_reach (by decide)⟩

/-- RX at `st` with an expired timer, under the given line, acknowledge and reset. -/
def rxAt (st : RxState) (line ack rst : Bool) : State :=
  { bench { Inputs.idle with rxI := line, rxAck := ack, rxRst := rst } with rx := ⟨st, 0, 0, 0x5a⟩ }

/-- TX at `st` with an expired timer, under the given request. -/
def txAt (st : TxState) (rdy : Bool) : State :=
  { bench { Inputs.idle with txRdy := rdy, txData := 0xa5 } with tx := ⟨st, 0, 0, 0x5a, true⟩ }

/-- COBS with the given registers and an input byte. -/
def cobsAt (c : Cobs) (b : Octet) : State :=
  { bench { Inputs.idle with iRdy := true, iData := b } with cobs := c }

/-- RS with the given index and flag, under the given latch and acknowledge. -/
def rsAt (idx : Nat) (done latch ack : Bool) : State :=
  { bench { Inputs.idle with iLatch := latch, rsData := 9, outReadAck := ack } with
    rs := ⟨idx, [1, 2, 3], done⟩ }

/-- Each flag rising and falling, one state for each clause. -/
theorem witness_FlagsChangeOnlyAsListed :
    (step (rxAt .stop true false false) = .next (after (rxAt .stop true false false)) ∧
      (rxAt .stop true false false).rxReady = false ∧ (after (rxAt .stop true false false)).rxReady = true) ∧
    (step (rxAt .full true true false) = .next (after (rxAt .full true true false)) ∧
      (rxAt .full true true false).rxReady = true ∧ (after (rxAt .full true true false)).rxReady = false) ∧
    (step (rxAt .stop false false false) = .next (after (rxAt .stop false false false)) ∧
      (rxAt .stop false false false).rxErr = false ∧ (after (rxAt .stop false false false)).rxErr = true) ∧
    (step (rxAt .error true false true) = .next (after (rxAt .error true false true)) ∧
      (rxAt .error true false true).rxErr = true ∧ (after (rxAt .error true false true)).rxErr = false) ∧
    (step (txAt .stop false) = .next (after (txAt .stop false)) ∧
      (txAt .stop false).txAck = false ∧ (after (txAt .stop false)).txAck = true) ∧
    (step (txAt .idle true) = .next (after (txAt .idle true)) ∧
      (txAt .idle true).txAck = true ∧ (after (txAt .idle true)).txAck = false) ∧
    (step (cobsAt ⟨.inBlock, 2, 0, false, 0, false⟩ 7) =
        .next (after (cobsAt ⟨.inBlock, 2, 0, false, 0, false⟩ 7)) ∧
      (after (cobsAt ⟨.inBlock, 2, 0, false, 0, false⟩ 7)).cobs.zp = true) ∧
    (step (cobsAt ⟨.awaitLen, 2, 0, true, 0, false⟩ 3) =
        .next (after (cobsAt ⟨.awaitLen, 2, 0, true, 0, false⟩ 3)) ∧
      (after (cobsAt ⟨.awaitLen, 2, 0, true, 0, false⟩ 3)).cobs.zp = false) ∧
    (step (rsAt 2 false true false) = .next (after (rsAt 2 false true false)) ∧
      (after (rsAt 2 false true false)).done = true) ∧
    (step (rsAt 0 true false true) = .next (after (rsAt 0 true false true)) ∧
      (after (rsAt 0 true false true)).done = false) :=
  ⟨⟨rfl, by decide⟩, ⟨rfl, by decide⟩, ⟨rfl, by decide⟩, ⟨rfl, by decide⟩, ⟨rfl, by decide⟩,
    ⟨rfl, by decide⟩, ⟨rfl, by decide⟩, ⟨rfl, by decide⟩, ⟨rfl, by decide⟩, ⟨rfl, by decide⟩⟩

/-- The four clauses, with the index at both ends of the write. -/
theorem witness_DoneIsSetByTheLastChunkOnly :
    1 ≤ (rsAt 2 false true true).params.k ∧
    (step (rsAt 2 false true true) = .next (after (rsAt 2 false true true)) ∧
      (rsAt 2 false true true).iLatch = true ∧
      (rsAt 2 false true true).rs.idx = (rsAt 2 false true true).params.k - 1) ∧
    (step (rsAt 1 true true false) = .next (after (rsAt 1 true true false)) ∧
      (rsAt 1 true true false).iLatch = true ∧
      (rsAt 1 true true false).rs.idx ≠ (rsAt 1 true true false).params.k - 1) ∧
    (step (rsAt 0 true false true) = .next (after (rsAt 0 true false true)) ∧
      (rsAt 0 true false true).iLatch = false ∧ (rsAt 0 true false true).outReadAck = true) ∧
    (step (rsAt 0 true false false) = .next (after (rsAt 0 true false false)) ∧
      (rsAt 0 true false false).iLatch = false ∧ (rsAt 0 true false false).outReadAck = false) :=
  ⟨by decide, ⟨rfl, by decide⟩, ⟨rfl, by decide⟩, ⟨rfl, by decide⟩, ⟨rfl, by decide⟩⟩

theorem witness_ErrorIsLeftOnlyByReset :
    (step (rxAt .error true true false) = .next (after (rxAt .error true true false)) ∧
      (rxAt .error true true false).rx.state = .error ∧ (rxAt .error true true false).rxRst = false) ∧
    (step (rxAt .error true true true) = .next (after (rxAt .error true true true)) ∧
      (rxAt .error true true true).rxRst = true) :=
  ⟨⟨rfl, by decide⟩, ⟨rfl, by decide⟩⟩

/-- An overrun and a framing error: each meets the premises of one clause. -/
theorem witness_ErrorIsEnteredOnlyByFramingOrOverrun :
    (step (rxAt .full false false false) = .next (after (rxAt .full false false false)) ∧
      (rxAt .full false false false).rxErr = false ∧ (rxAt .full false false false).rxReady = true ∧
      (after (rxAt .full false false false)).rxErr = true) ∧
    (step (rxAt .stop false false false) = .next (after (rxAt .stop false false false)) ∧
      (rxAt .stop false false false).rxErr = false ∧ (rxAt .stop false false false).rxReady = false ∧
      (after (rxAt .stop false false false)).rxErr = true) :=
  ⟨⟨rfl, by decide⟩, ⟨rfl, by decide⟩⟩

/-- A held octet, a held word and a load. -/
theorem witness_HandshakesKeepTheirDataStable :
    (step (rxAt .full true false false) = .next (after (rxAt .full true false false)) ∧
      (rxAt .full true false false).rxReady = true ∧ (after (rxAt .full true false false)).rxReady = true) ∧
    (step (rsAt 0 true false true) = .next (after (rsAt 0 true false true)) ∧
      (rsAt 0 true false true).done = true ∧ (rsAt 0 true false true).iLatch = false) ∧
    (step (txAt .idle true) = .next (after (txAt .idle true)) ∧
      (txAt .idle true).tx.shreg ≠ (after (txAt .idle true)).tx.shreg ∧ (txAt .idle true).txAck = true) :=
  ⟨⟨rfl, by decide⟩, ⟨rfl, by decide⟩, ⟨rfl, by decide⟩⟩

theorem witness_TxIgnoresRequestsWhileBusy :
    (txAt .start true).txAck = false ∧ (txAt .data true).txAck = false ∧
      (txAt .stop true).txAck = false := by decide

/-- An operation of each timer, and both ends of the counter's range. -/
theorem witness_TimersCountDownInEveryOtherOperation :
    ∃ t u : State, exec (.rxErrorHold true true true true) (bench .idle) = .next t ∧
      exec (.txIdleHold true false) (bench .idle) = .next u ∧
      (∀ c p q a l, Instr.rxErrorHold true true true true ≠ .rxReset c p q a l) ∧
      (∀ p a l, Instr.rxErrorHold true true true true ≠ .rxIdleDetect p a l) ∧
      (∀ c p q l, Instr.txIdleHold true false ≠ .txReset c p q l) ∧
      (∀ p l, Instr.txIdleHold true false ≠ .txIdleLoad p l) ∧ (0 < 1 ∧ 0 < 4 ∧ 3 < 4) :=
  ⟨_, _, rfl, rfl, by simp, by simp, by simp, by simp, by decide⟩

theorem witness_StrobeComesEveryDTicks : (0 < 1) ∧ (0 < 4) ∧ 3 < 4 := by decide

/-- A pair of rates that fails and a pair that starts, with the least `K`. -/
theorem witness_BringUpStartsOnlyValidHardware :
    divConfig 1 2 none = .error .targetRateTooHigh ∧
    State.construct 1 1 none 1 Wiring.separate DataDraw.zero [] =
      .ok (State.initial ⟨1, 1, 1, Wiring.separate⟩ DataDraw.zero []) ∧ 1 ≤ 1 := by
  have h : divConfig 1 1 none = .ok 1 := by
    norm_num [divConfig, divConfigWith, roundNearest, rat_floor_eq, checkDivisor]
  exact ⟨test_div_config_too_high, by rw [State.construct, h], by decide⟩

theorem witness_CounterWidthHoldsTheRange : 1 ≤ 1 ∧ 1 - 1 < 2 ^ 1 ∧ 1 ≤ 5 ∧ 5 - 1 < 2 ^ 3 := by decide

/-- The first and the last chunk. -/
theorem witness_WordPlacesChunksByIndex :
    (rsAt 0 true false false).rs.chunks.length = (rsAt 0 true false false).params.k ∧
    (rsAt 0 true false false).rs.chunks[0]? = some 1 ∧
    (rsAt 0 true false false).rs.chunks[2]? = some 3 := by decide

theorem witness_WordIsTheWeightedSumOfChunks :
    (rsAt 0 true false false).rs.chunks.length = (rsAt 0 true false false).params.k := by decide

/-- Three chunks in three ticks into a restrider that holds another word. -/
def filling : State :=
  { State.initial rig otherDraw
      ([0x80, 0x40, 0x20].map fun b => { Inputs.idle with iLatch := true, rsData := b, outReadAck := true })
    with rs := ⟨0, [1, 2, 3], true⟩ }

theorem witness_RestriderFillsAWord :
    filling.params.wiring.cobsToRs = false ∧ filling.rs.idx = 0 ∧ 1 ≤ filling.params.k ∧
    filling.rs.chunks.length = filling.params.k ∧ [0x80#8, 0x40#8, 0x20#8].length = filling.params.k ∧
    (∀ (j : Nat) (b : Octet), [0x80#8, 0x40#8, 0x20#8][j]? = some b →
      (filling.inputsAt j).iLatch = true ∧ (filling.inputsAt j).rsData = b) ∧
    (run 1 filling = .next (reach 1 filling) ∧ 0 < 1 ∧ 1 < filling.params.k) ∧
    (run 2 filling = .next (reach 2 filling) ∧ 2 < filling.params.k) ∧
    run filling.params.k filling = .next (reach 3 filling) := by
  refine ⟨by decide, by decide, by decide, by decide, by decide, ?_, ⟨run_eq_reach (by decide), by decide⟩,
    ⟨run_eq_reach (by decide), by decide⟩, run_eq_reach (by decide)⟩
  intro j b h
  match j, h with
  | 0, h => cases h; decide
  | 1, h => cases h; decide
  | 2, h => cases h; decide
  | _ + 3, h => cases h

/-- A receiver alone with divisor `d` and the given line; the acknowledge is low for `n` ticks and high after. -/
def receiving (d n : Nat) (line : List Bool) : State :=
  { State.initial { rig with dRx := d } otherDraw
      (line.zipIdx.map fun x => { Inputs.idle with rxI := x.1, rxAck := decide (n ≤ x.2) })
    with rx := ⟨.idle, 0, 0, 1⟩ }

/-- `D = 1`, the least divisor, `H = 0`: a line that alternates from low. -/
def oneTickFrame : State :=
  receiving 1 0 [false, true, false, true, false, true, false, true, false, true, true, true]

/-- Every clause's tick: 1, `1 + H`, the first and the seventh sample, the eighth, the stop sample, the tick
before the end and the end. -/
theorem witness_RxEventsFallOnTheirTicks :
    1 ≤ oneTickFrame.params.dRx ∧ oneTickFrame.rx.state = .idle ∧ oneTickFrame.rx.bitno = 0 ∧
    oneTickFrame.rxI = false ∧ (∀ j, j ≤ 11 → (oneTickFrame.inputsAt j).rxRst = false) ∧
    run 1 oneTickFrame = .next (reach 1 oneTickFrame) ∧ run 2 oneTickFrame = .next (reach 2 oneTickFrame) ∧
    run 8 oneTickFrame = .next (reach 8 oneTickFrame) ∧ run 9 oneTickFrame = .next (reach 9 oneTickFrame) ∧
    run 10 oneTickFrame = .next (reach 10 oneTickFrame) ∧
    run 11 oneTickFrame = .next (reach 11 oneTickFrame) :=
  ⟨by decide, by decide, by decide, by decide, by decide, run_eq_reach (by decide), run_eq_reach (by decide),
    run_eq_reach (by decide), run_eq_reach (by decide), run_eq_reach (by decide), run_eq_reach (by decide)⟩

theorem witness_RxOctetIsItsSamples :
    1 ≤ oneTickFrame.params.dRx ∧ oneTickFrame.rx.state = .idle ∧ oneTickFrame.rx.bitno = 0 ∧
    oneTickFrame.rxI = false ∧ (∀ j, j < 11 → (oneTickFrame.inputsAt j).rxRst = false) ∧
    run 11 oneTickFrame = .next (reach 11 oneTickFrame) ∧
    run 2 oneTickFrame = .next (reach 2 oneTickFrame) ∧ run 9 oneTickFrame = .next (reach 9 oneTickFrame) ∧
    run 10 oneTickFrame = .next (reach 10 oneTickFrame) :=
  ⟨by decide, by decide, by decide, by decide, by decide, run_eq_reach (by decide), run_eq_reach (by decide),
    run_eq_reach (by decide), run_eq_reach (by decide)⟩

/-- `D = 3`, the least divisor that receives: a frame of `0xa5`, acknowledged in tick 32, two ticks after
`rx_ready` rises. -/
def frameIn : State := receiving 3 32 ((List.range 34).map (frameLevel 3 0xa5))

theorem witness_RxReceivesTheOctetSent :
    3 ≤ frameIn.params.dRx ∧ frameIn.params.wiring.txToRx = false ∧ frameIn.rx.state = .idle ∧
    frameIn.rx.bitno = 0 ∧
    (∀ j, j < 32 → (frameIn.inputsAt j).rxRst = false ∧
      (frameIn.inputsAt j).rxI = frameLevel frameIn.params.dRx 0xa5 j) ∧
    2 + frameIn.params.dRx / 2 + 9 * frameIn.params.dRx = 30 ∧ frameIn.params.wiring.rxToCobs = false ∧
    (∀ j, 30 ≤ j → j < 32 → (frameIn.inputsAt j).rxAck = false) ∧
    run 29 frameIn = .next (reach 29 frameIn) ∧ run 30 frameIn = .next (reach 30 frameIn) ∧
    run 32 frameIn = .next (reach 32 frameIn) ∧ (reach 32 frameIn).rxAck = true ∧
    step (reach 32 frameIn) = .next (after (reach 32 frameIn)) := by
  refine ⟨by decide, by decide, by decide, by decide, by decide, by decide, by decide, ?_,
    run_eq_reach (by decide), run_eq_reach (by decide), run_eq_reach (by decide), by decide,
    step_eq_after (by decide)⟩
  have h : ∀ j, j < 32 → 30 ≤ j → (frameIn.inputsAt j).rxAck = false := by decide
  exact fun j h1 h2 => h j h2 h1

/-- A sender with the receiver's own period is its own frame. -/
theorem senderLevel_three (b : Octet) (n : Nat) : senderLevel 3 0 b n = frameLevel 3 b n := by
  have h : (((0 : ℚ) + n) / 3).floor = ((n / 3 : Nat) : Int) := by
    rw [zero_add, rat_floor_eq]
    exact_mod_cast Rat.floor_natCast_div_natCast n 3
  rw [senderLevel, h, frameLevel]
  rfl

theorem witness_RxToleratesTheSendersRate :
    1 ≤ frameIn.params.dRx ∧ frameIn.params.wiring.txToRx = false ∧ frameIn.rx.state = .idle ∧
    frameIn.rx.bitno = 0 ∧ (0 : ℚ) < 3 ∧ (0 : ℚ) ≤ 0 ∧ (0 : ℚ) < 1 ∧
    (∀ j : Nat, 1 ≤ j → j ≤ 9 →
      (j : ℚ) * 3 ≤ 0 + ((1 + 3 / 2 + j * 3 : Nat) : ℚ) ∧
        0 + ((1 + 3 / 2 + j * 3 : Nat) : ℚ) < ((j : ℚ) + 1) * 3) ∧
    (∀ j, j < 30 → (frameIn.inputsAt j).rxRst = false ∧
      (frameIn.inputsAt j).rxI = senderLevel 3 0 0xa5 j) ∧
    run 30 frameIn = .next (reach 30 frameIn) := by
  refine ⟨by decide, by decide, by decide, by decide, by norm_num, by norm_num, by norm_num, ?_, ?_,
    run_eq_reach (by decide)⟩
  · intro j _ _
    rw [show 1 + 3 / 2 + j * 3 = 2 + j * 3 by omega]
    push_cast
    constructor <;> linarith
  · have h : ∀ j, j < 30 → (frameIn.inputsAt j).rxRst = false ∧
        (frameIn.inputsAt j).rxI = frameLevel 3 0xa5 j := by decide
    intro j hj
    rw [senderLevel_three]
    exact h j hj

/-- A transmitter alone with divisor `d`, a request for `0xa5` in the first tick and `n` more ticks; `w` says
whether its line is looped back to a receiver of the same divisor. -/
def sending (d n : Nat) (w : Bool) : State :=
  State.initial { rig with dRx := d, dTx := d, wiring := ⟨false, false, w⟩ } otherDraw
    ({ Inputs.idle with txRdy := true, txData := 0xa5 } :: List.replicate n .idle)

/-- The least divisor; the first tick, the last of `START`, the last of the octet and the end. -/
theorem witness_TxWaveformIsTheFrame :
    1 ≤ (sending 1 10 false).params.dTx ∧ (sending 1 10 false).tx.state = .idle ∧
    (sending 1 10 false).tx.bitno = 0 ∧ (sending 1 10 false).txRdy = true ∧
    (∀ j, j < 11 → ((sending 1 10 false).inputsAt j).txRst = false) ∧
    run 1 (sending 1 10 false) = .next (reach 1 (sending 1 10 false)) ∧
    run 2 (sending 1 10 false) = .next (reach 2 (sending 1 10 false)) ∧
    run 10 (sending 1 10 false) = .next (reach 10 (sending 1 10 false)) ∧
    run 11 (sending 1 10 false) = .next (reach 11 (sending 1 10 false)) ∧
    11 ≤ 10 * (sending 1 10 false).params.dTx + 1 :=
  ⟨by decide, by decide, by decide, by decide, by decide, run_eq_reach (by decide), run_eq_reach (by decide),
    run_eq_reach (by decide), run_eq_reach (by decide), by decide⟩

theorem witness_LoopBackDeliversTheOctet :
    (sending 3 40 true).params.wiring.txToRx = true ∧
    (sending 3 40 true).params.dTx = (sending 3 40 true).params.dRx ∧ 3 ≤ (sending 3 40 true).params.dRx ∧
    (sending 3 40 true).rx.state = .idle ∧ (sending 3 40 true).rx.bitno = 0 ∧
    (sending 3 40 true).tx.state = .idle ∧ (sending 3 40 true).tx.bitno = 0 ∧
    (sending 3 40 true).tx.o = true ∧ (sending 3 40 true).txRdy = true ∧
    (∀ j, j < 34 → ((sending 3 40 true).inputsAt j).rxRst = false ∧
      ((sending 3 40 true).inputsAt j).txRst = false) ∧
    run 34 (sending 3 40 true) = .next (reach 34 (sending 3 40 true)) :=
  ⟨by decide, by decide, by decide, by decide, by decide, by decide, by decide, by decide, by decide,
    by decide, run_eq_reach (by decide)⟩

/-- LUNA's concrete case with an idle tick in it. -/
def feed : List (Option Octet) := [some 2, some 0x66, none, some 2, some 0x6f]

/-- The feed as a stimulus. -/
def fed : State :=
  State.initial rig otherDraw
    (feed.map fun x => { Inputs.idle with iRdy := x.isSome, iData := x.getD 0 })

theorem witness_CobsStreamIsDecoded :
    fed.params.wiring.rxToCobs = false ∧ fed.cobs.state = .awaitLen ∧ fed.cobs.zp = false ∧
    fed.cobs.oRdy = false ∧
    (∀ (j : Nat) (x : Option Octet), feed[j]? = some x →
      (fed.inputsAt j).iRdy = x.isSome ∧ ∀ b, x = some b → (fed.inputsAt j).iData = b) ∧
    completeBlocks (feed.filterMap id) = true := by
  refine ⟨by decide, by decide, by decide, by decide, ?_, by decide⟩
  intro j x h
  match j, h with
  | 0, h => cases h; exact ⟨by decide, fun b hb => by cases hb; decide⟩
  | 1, h => cases h; exact ⟨by decide, fun b hb => by cases hb; decide⟩
  | 2, h => cases h; exact ⟨by decide, fun b hb => by cases hb⟩
  | 3, h => cases h; exact ⟨by decide, fun b hb => by cases hb; decide⟩
  | 4, h => cases h; exact ⟨by decide, fun b hb => by cases hb; decide⟩
  | _ + 5, h => cases h

/-- The pipeline, RX at `st` with an expired timer holding `0x66`, a block of length 2 open, a pending zero owed
where the decoder awaits a length. -/
def chain (st : RxState) (c : CobsState) (zp : Bool) : State :=
  { State.initial { rig with wiring := Wiring.pipeline } otherDraw (List.replicate 4 .idle) with
    rx := ⟨st, 0, 0, 0x66⟩, cobs := ⟨c, 2, 0, zp, 0, false⟩ }

theorem witness_PipelineReceiverNeverOverruns :
    (chain .full .inBlock false).params.wiring.rxToCobs = true ∧ (chain .full .inBlock false).rxReady = true ∧
    step (chain .full .inBlock false) = .next (after (chain .full .inBlock false)) :=
  ⟨by decide, by decide, step_eq_after (by decide)⟩

/-- A data byte and a length byte with a zero pending. -/
theorem witness_PipelineLatencyIsThreeTicks :
    ((chain .stop .inBlock false).params.wiring.rxToCobs = true ∧
      (chain .stop .inBlock false).params.wiring.cobsToRs = true ∧ (chain .stop .inBlock false).rxRst = false ∧
      (chain .stop .inBlock false).rx.state = .stop ∧ (chain .stop .inBlock false).rx.timer = 0 ∧
      (chain .stop .inBlock false).rxI = true) ∧
    step (chain .stop .inBlock false) = .next (after (chain .stop .inBlock false)) ∧
    step (after (chain .stop .inBlock false)) = .next (after (after (chain .stop .inBlock false))) ∧
    step (after (after (chain .stop .inBlock false))) =
      .next (after (after (after (chain .stop .inBlock false)))) ∧
    (after (chain .stop .inBlock false)).rxRst = false ∧
    (after (after (chain .stop .inBlock false))).oRdy = true ∧
    ((chain .stop .awaitLen true).cobs.state = .awaitLen ∧ (chain .stop .awaitLen true).cobs.zp = true ∧
      answers (run 3 (chain .stop .awaitLen true)) = true) :=
  ⟨by decide, step_eq_after (by decide), step_eq_after (by decide), step_eq_after (by decide), by decide,
    by decide, by decide⟩

end Sys2Proof.Tests
end

section
/-! PROOFS. The statements of 00_scope.md: the step as the commit of the decoded operations, the step as the
synchronous product of the four transition graphs, and the width of a counter. -/

namespace Sys2Proof.Machine

/-! ### The step runs the decoded operations -/

/-- A machine performs the operation that the word of its selector decodes to (30_encoding.md R90). -/
theorem fetch_of_decode_selector {m : Agent} {s : State} {i : Instr}
    (h : decode (selector m s).toWord = .ok i) : fetch m s = some i := by
  rw [decode_toWord] at h
  rw [fetch, h]
  rfl

/-- The step, with any four operations that the machines perform. -/
theorem step_of_fetch {s : State} {a b c d : Instr} (ha : fetch .rx s = some a)
    (hb : fetch .tx s = some b) (hc : fetch .cobs s = some c) (hd : fetch .rs s = some d) :
    step s = commit s (exec a s) (exec b s) (exec c s) (exec d s) := by
  simp only [step, tickOnce, ha, hb, hc, hd]

/-- Settles O7: the decoded operations are the fetched ones, and the commit of four next states latches one
machine's registers from each. -/
theorem stepRunsTheDecodedOperations : Obligations.StepRunsTheDecodedOperations := by
  intro s a b c d ha hb hc hd
  have hstep : step s = commit s (exec a s) (exec b s) (exec c s) (exec d s) :=
    step_of_fetch (fetch_of_decode_selector ha) (fetch_of_decode_selector hb)
      (fetch_of_decode_selector hc) (fetch_of_decode_selector hd)
  refine ⟨hstep, fun sa sb sc sd hsa hsb hsc hsd => ?_⟩
  rw [hstep, hsa, hsb, hsc, hsd, commit_next]
  rfl

/-! ### Each machine's operation follows its transition graph

One lemma per machine. The case split is the graph's: reset, then the state, then the conditions that the
state's edges read. -/

/-- RX's operation writes the registers its transition graph gives (41_uart_rx.md R110, R111). -/
theorem exec_rxOperation (s : State) :
    exec (rxOperation s.rx.state s.rxRst s.rxStb s.rxI s.rxAck s.rxLast) s =
      .next (s.setRx (Rx.next s.params.dRx s.rxI s.rxAck s.rxRst s.rx)) := by
  cases s.rxRst with
  | true => rfl
  | false =>
    cases hst : s.rx.state with
    | idle =>
      cases s.rxI <;>
        simp [rxOperation, exec, execRxIdleWait, execRxIdleDetect, Rx.next, Rx.goTo, halfPeriod, hst]
    | start =>
      by_cases ht : s.rx.timer = 0 <;>
        simp [rxOperation, exec, execRxStartWait, execRxStartGo, Rx.next, Rx.goTo, State.rxStb, hst, ht]
    | data =>
      by_cases ht : s.rx.timer = 0
      · by_cases hb : s.rx.bitno = 7#3 <;>
          simp [rxOperation, exec, execRxDataShift, execRxDataLast, Rx.next, Rx.goTo, Rx.takeSample,
            State.rxStb, State.rxLast, hst, ht, hb]
      · simp [rxOperation, exec, execRxDataWait, Rx.next, Rx.goTo, State.rxStb, hst, ht]
    | stop =>
      by_cases ht : s.rx.timer = 0
      · cases s.rxI <;>
          simp [rxOperation, exec, execRxStopOk, execRxStopFerr, Rx.next, Rx.goTo, Rx.enterError_eq,
            State.rxStb, hst, ht]
      · simp [rxOperation, exec, execRxStopWait, Rx.next, Rx.goTo, State.rxStb, hst, ht]
    | full =>
      cases s.rxAck with
      | true => simp [rxOperation, exec, execRxFullAck, Rx.next, Rx.goTo, hst]
      | false =>
        cases s.rxI <;>
          simp [rxOperation, exec, execRxFullHold, execRxFullOverrun, Rx.next, Rx.goTo,
            Rx.enterError_eq, hst]
    | error => simp [rxOperation, exec, execRxErrorHold, Rx.next, Rx.goTo, hst]

/-- TX's operation writes the registers its transition graph gives (42_uart_tx.md R140, R141). -/
theorem exec_txOperation (s : State) :
    exec (txOperation s.tx.state s.txRst s.txStb s.txRdy s.txLast) s =
      .next (s.setTx (Tx.next s.params.dTx s.txRdy s.txData s.txRst s.tx)) := by
  cases s.txRst with
  | true => rfl
  | false =>
    cases hst : s.tx.state with
    | idle =>
      cases s.txRdy <;>
        simp [txOperation, exec, execTxIdleHold, execTxIdleLoad, Tx.next, Tx.goTo, Tx.drive_eq, hst]
    | start =>
      by_cases ht : s.tx.timer = 0 <;>
        simp [txOperation, exec, execTxStartWait, execTxStartDrive, Tx.next, Tx.goTo, Tx.drive_eq,
          State.txStb, hst, ht]
    | data =>
      by_cases ht : s.tx.timer = 0
      · by_cases hb : s.tx.bitno = 7#3 <;>
          simp [txOperation, exec, execTxDataShift, execTxDataLast, Tx.next, Tx.goTo, Tx.driveBit_eq,
            State.txStb, State.txLast, hst, ht, hb]
      · simp [txOperation, exec, execTxDataWait, Tx.next, Tx.goTo, State.txStb, hst, ht]
    | stop =>
      by_cases ht : s.tx.timer = 0 <;>
        simp [txOperation, exec, execTxStopWait, execTxStopDrive, Tx.next, Tx.goTo, Tx.drive_eq,
          State.txStb, hst, ht]

/-- The last byte of a block, counted in natural numbers (30_encoding.md R93). -/
theorem State.cobsLast_iff (s : State) :
    s.cobsLast = true ↔ s.cobs.cnt.toNat + 2 = s.cobs.len.toNat := by
  rw [State.cobsLast, beq_iff_eq]
  omega

/-- COBS's operation follows its transition graph, with the fault where the graph has no next state
(43_cobs_decoder.md R160, R161, R166). -/
theorem exec_cobsOperation (s : State) :
    exec (cobsOperation s.cobs.state s.iRdy s.cobsLast s.iData) s =
      (Cobs.next s.iRdy s.iData s.cobs).elim (.fault .cobsZeroLength) fun c => .next (s.setCobs c) := by
  cases s.iRdy with
  | false => rfl
  | true =>
    cases hst : s.cobs.state with
    | awaitLen =>
      by_cases h0 : s.iData = 0#8
      · simp [cobsOperation, exec, execCobsLenZero, Cobs.next, hst, h0]
      · by_cases h1 : s.iData = 1#8
        · simp [cobsOperation, exec, execCobsLenOne, Cobs.next, Cobs.emitPendingZero_eq, hst, h1]
        · simp [cobsOperation, exec, execCobsLenN, Cobs.next, Cobs.emitPendingZero_eq, hst, h0, h1]
    | inBlock =>
      by_cases hl : s.cobs.cnt.toNat + 2 = s.cobs.len.toNat
      · simp [cobsOperation, exec, execCobsDataLast, Cobs.next, Cobs.emit_eq, s.cobsLast_iff.mpr hl, hst,
          hl, bne, Bool.beq_eq_decide_eq]
      · have hlast : s.cobsLast = false := by simpa [← s.cobsLast_iff] using hl
        simp [cobsOperation, exec, execCobsDataMid, Cobs.next, Cobs.emit_eq, hlast, hst, hl]

/-- RS's operation writes the registers its transition graph gives (44_restrider.md R180, R181). -/
theorem exec_rsOperation (s : State) :
    exec (rsOperation s.iLatch s.outReadAck s.rsLast) s =
      .next (s.setRs (Rs.next s.params.k s.iLatch s.rsData s.outReadAck s.rs)) := by
  cases s.iLatch with
  | true =>
    by_cases hl : s.rs.idx + 1 = s.params.k
    · simp [rsOperation, exec, execRsWriteLast, Rs.next, Rs.store, State.rsLast, ← hl]
    · simp [rsOperation, exec, execRsWriteMid, Rs.next, Rs.store, State.rsLast, hl]
  | false => cases s.outReadAck <;> rfl

/-- Settles O8: the four operations that a step runs each follow their machine's transition graph, and only the
decoder's graph has an edge missing. -/
theorem stepIsTheSynchronousProduct : Obligations.StepIsTheSynchronousProduct := by
  intro s
  rw [step_eq_commit, exec_rxOperation, exec_txOperation, exec_cobsOperation, exec_rsOperation]
  cases Cobs.next s.iRdy s.iData s.cobs with
  | none => rfl
  | some c => rfl

end Sys2Proof.Machine

/-! ### The width of a counter -/

namespace Sys2Proof

/-- Settles O46: `n - 1 < 2 ^ w` is `n ≤ 2 ^ w`, and `clog` is the least such exponent. -/
theorem counterWidthHoldsTheRange : Obligations.CounterWidthHoldsTheRange := by
  intro n hn
  constructor
  · have hrange : n ≤ 2 ^ Config.counterWidth n :=
      calc n ≤ 2 ^ Nat.clog 2 n := Nat.le_pow_clog one_lt_two n
        _ ≤ 2 ^ Config.counterWidth n := Nat.pow_le_pow_right two_pos (le_max_right 1 _)
    omega
  · intro w hw hlt
    have hclog : Nat.clog 2 n ≤ w := Nat.clog_le_of_le_pow (by omega)
    exact max_le hw hclog

end Sys2Proof
end

section
/-! PROOFS. The statements of 10_state.md: ownership of the registers, the invariants of R51, the six flags of R44,
`done`, and the unspecified data registers of R50. -/

namespace Sys2Proof.Machine

/-! ### One step, machine by machine -/

/-- A step answers a next state exactly where the decoder's graph has one, and latches what the four transition
graphs give. -/
theorem step_eq_next_iff {s t : State} :
    step s = .next t ↔
      ∃ c, Cobs.next s.iRdy s.iData s.cobs = some c ∧
        t = s.latch (Rx.next s.params.dRx s.rxI s.rxAck s.rxRst s.rx)
          (Tx.next s.params.dTx s.txRdy s.txData s.txRst s.tx) c
          (Rs.next s.params.k s.iLatch s.rsData s.outReadAck s.rs) := by
  rw [stepIsTheSynchronousProduct s]
  cases Cobs.next s.iRdy s.iData s.cobs with
  | none => simp
  | some c => simpa [State.latch] using eq_comm

theorem step_rx {s t : State} (h : step s = .next t) :
    t.rx = Rx.next s.params.dRx s.rxI s.rxAck s.rxRst s.rx := by
  obtain ⟨c, -, rfl⟩ := step_eq_next_iff.mp h
  rfl

theorem step_tx {s t : State} (h : step s = .next t) :
    t.tx = Tx.next s.params.dTx s.txRdy s.txData s.txRst s.tx := by
  obtain ⟨c, -, rfl⟩ := step_eq_next_iff.mp h
  rfl

theorem step_cobs {s t : State} (h : step s = .next t) :
    Cobs.next s.iRdy s.iData s.cobs = some t.cobs := by
  obtain ⟨c, hc, rfl⟩ := step_eq_next_iff.mp h
  exact hc

theorem step_rs {s t : State} (h : step s = .next t) :
    t.rs = Rs.next s.params.k s.iLatch s.rsData s.outReadAck s.rs := by
  obtain ⟨c, -, rfl⟩ := step_eq_next_iff.mp h
  rfl

/-- The edges of the decoder's graph, each named after its operation (43_cobs_decoder.md R160, R162 to R168). -/
inductive Cobs.Edge : Bool → Octet → Cobs → Cobs → Prop where
  | idle {b : Octet} {c : Cobs} : Edge false b c { c with oRdy := false }
  | lenOne {c : Cobs} (hst : c.state = .awaitLen) :
      Edge true 1 c { state := .awaitLen, len := 1, cnt := 0, zp := true,
                      oData := if c.zp then 0 else c.oData, oRdy := c.zp }
  | lenN {b : Octet} {c : Cobs} (hst : c.state = .awaitLen) (h0 : b ≠ 0) (h1 : b ≠ 1) :
      Edge true b c { state := .inBlock, len := b, cnt := 0, zp := false,
                      oData := if c.zp then 0 else c.oData, oRdy := c.zp }
  | dataMid {b : Octet} {c : Cobs} (hst : c.state = .inBlock) (hl : c.cnt.toNat + 2 ≠ c.len.toNat) :
      Edge true b c { c with oData := b, oRdy := true, cnt := c.cnt + 1 }
  | dataLast {b : Octet} {c : Cobs} (hst : c.state = .inBlock) (hl : c.cnt.toNat + 2 = c.len.toNat) :
      Edge true b c { c with oData := b, oRdy := true, cnt := 0, zp := c.len ≠ 255, state := .awaitLen }

theorem Cobs.next_idle (b : Octet) (c : Cobs) : Cobs.next false b c = some { c with oRdy := false } := rfl

theorem Cobs.next_lenZero {c : Cobs} (hst : c.state = .awaitLen) : Cobs.next true 0 c = none := by
  simp [Cobs.next, hst]

theorem Cobs.next_lenOne {c : Cobs} (hst : c.state = .awaitLen) :
    Cobs.next true 1 c = some { state := .awaitLen, len := 1, cnt := 0, zp := true,
                                oData := if c.zp then 0 else c.oData, oRdy := c.zp } := by
  simp [Cobs.next, hst]

theorem Cobs.next_lenN {b : Octet} {c : Cobs} (hst : c.state = .awaitLen) (h0 : b ≠ 0) (h1 : b ≠ 1) :
    Cobs.next true b c = some { state := .inBlock, len := b, cnt := 0, zp := false,
                                oData := if c.zp then 0 else c.oData, oRdy := c.zp } := by
  simp only [Cobs.next, hst, h0, h1, if_true, if_false, decide_false]

theorem Cobs.next_dataMid (b : Octet) {c : Cobs} (hst : c.state = .inBlock)
    (hl : c.cnt.toNat + 2 ≠ c.len.toNat) :
    Cobs.next true b c = some { c with oData := b, oRdy := true, cnt := c.cnt + 1 } := by
  simp only [Cobs.next, hst, hl, if_true, if_false]

theorem Cobs.next_dataLast (b : Octet) {c : Cobs} (hst : c.state = .inBlock)
    (hl : c.cnt.toNat + 2 = c.len.toNat) :
    Cobs.next true b c = some { c with oData := b, oRdy := true, cnt := 0, zp := c.len ≠ 255,
                                       state := .awaitLen } := by
  simp only [Cobs.next, hst, hl, if_true]

/-- The decoder's next registers are those an edge of its graph leads to. -/
theorem Cobs.next_eq_some_iff {rdy : Bool} {b : Octet} {c d : Cobs} :
    Cobs.next rdy b c = some d ↔ Cobs.Edge rdy b c d := by
  constructor
  · intro h
    cases rdy with
    | false => cases h; exact .idle
    | true =>
      cases hst : c.state with
      | awaitLen =>
        by_cases h0 : b = 0
        · rw [h0, Cobs.next_lenZero hst] at h; cases h
        by_cases h1 : b = 1
        · rw [h1, Cobs.next_lenOne hst] at h; cases h; rw [h1]; exact .lenOne hst
        · rw [Cobs.next_lenN hst h0 h1] at h; cases h; exact .lenN hst h0 h1
      | inBlock =>
        by_cases hl : c.cnt.toNat + 2 = c.len.toNat
        · rw [Cobs.next_dataLast b hst hl] at h; cases h; exact .dataLast hst hl
        · rw [Cobs.next_dataMid b hst hl] at h; cases h; exact .dataMid hst hl
  · intro h
    cases h with
    | idle => exact Cobs.next_idle b c
    | lenOne hst => exact Cobs.next_lenOne hst
    | lenN hst h0 h1 => exact Cobs.next_lenN hst h0 h1
    | dataMid hst hl => exact Cobs.next_dataMid b hst hl
    | dataLast hst hl => exact Cobs.next_dataLast b hst hl

/-! ### The transition graphs of RX, TX and RS, register by register -/

/-- The receiver's timer is cleared by a reset, loaded with half a period at a falling line, and counts otherwise. -/
theorem Rx.next_timer (d : Nat) (line ack rst : Bool) (r : Rx) :
    (Rx.next d line ack rst r).timer =
      if rst then 0 else if r.state = .idle ∧ line = false then d / 2 else tickDown r.timer d := by
  cases hst : r.state <;> grind [Rx.next]

theorem Rx.next_bitno (d : Nat) (line ack rst : Bool) (r : Rx) :
    (Rx.next d line ack rst r).bitno =
      if rst then 0 else if r.state = .data ∧ r.timer = 0 then r.bitno + 1 else r.bitno := by
  cases hst : r.state <;> grind [Rx.next]

theorem Rx.next_shreg (d : Nat) (line ack rst : Bool) (r : Rx) :
    (Rx.next d line ack rst r).shreg =
      if rst = false ∧ r.state = .data ∧ r.timer = 0 then pushHigh line r.shreg else r.shreg := by
  cases hst : r.state <;> grind [Rx.next]

theorem Rx.next_state_eq_data_iff (d : Nat) (line ack rst : Bool) (r : Rx) :
    (Rx.next d line ack rst r).state = .data ↔
      rst = false ∧ (r.state = .start ∧ r.timer = 0 ∨ r.state = .data ∧ ¬(r.timer = 0 ∧ r.bitno = 7)) := by
  cases hst : r.state <;> grind [Rx.next]

theorem Rx.next_state_eq_full_iff (d : Nat) (line ack rst : Bool) (r : Rx) :
    (Rx.next d line ack rst r).state = .full ↔
      rst = false ∧ line = true ∧ (r.state = .stop ∧ r.timer = 0 ∨ r.state = .full ∧ ack = false) := by
  cases hst : r.state <;> grind [Rx.next]

theorem Rx.next_state_eq_error_iff (d : Nat) (line ack rst : Bool) (r : Rx) :
    (Rx.next d line ack rst r).state = .error ↔
      rst = false ∧ (r.state = .error ∨
        line = false ∧ (r.state = .stop ∧ r.timer = 0 ∨ r.state = .full ∧ ack = false)) := by
  cases hst : r.state <;> grind [Rx.next]

/-- The transmitter's timer is cleared by a reset, loaded with `D - 1` by a request, and counts otherwise. -/
theorem Tx.next_timer (d : Nat) (rdy : Bool) (b : Octet) (rst : Bool) (x : Tx) :
    (Tx.next d rdy b rst x).timer =
      if rst then 0 else if x.state = .idle ∧ rdy = true then d - 1 else tickDown x.timer d := by
  cases hst : x.state <;> grind [Tx.next]

theorem Tx.next_bitno (d : Nat) (rdy : Bool) (b : Octet) (rst : Bool) (x : Tx) :
    (Tx.next d rdy b rst x).bitno =
      if rst then 0 else if x.state = .data ∧ x.timer = 0 then x.bitno + 1 else x.bitno := by
  cases hst : x.state <;> grind [Tx.next]

theorem Tx.next_state_eq_data_iff (d : Nat) (rdy : Bool) (b : Octet) (rst : Bool) (x : Tx) :
    (Tx.next d rdy b rst x).state = .data ↔
      rst = false ∧ (x.state = .start ∧ x.timer = 0 ∨ x.state = .data ∧ ¬(x.timer = 0 ∧ x.bitno = 7)) := by
  cases hst : x.state <;> grind [Tx.next]

theorem Tx.next_state_eq_idle_iff (d : Nat) (rdy : Bool) (b : Octet) (rst : Bool) (x : Tx) :
    (Tx.next d rdy b rst x).state = .idle ↔
      rst = true ∨ x.state = .idle ∧ rdy = false ∨ x.state = .stop ∧ x.timer = 0 := by
  cases hst : x.state <;> grind [Tx.next]

/-- Every edge into IDLE drives the line high (42_uart_tx.md R142, R143, R151). -/
theorem Tx.next_o_of_idle {d : Nat} {rdy : Bool} {b : Octet} {rst : Bool} {x : Tx}
    (h : (Tx.next d rdy b rst x).state = .idle) : (Tx.next d rdy b rst x).o = true := by
  cases hst : x.state <;> grind [Tx.next]

/-- A latch sets `done` at the last index and clears it elsewhere; without one an acknowledge clears it. -/
theorem Rs.next_done (k : Nat) (latch : Bool) (b : Octet) (ack : Bool) (r : Rs) :
    (Rs.next k latch b ack r).done =
      if latch then decide (r.idx + 1 = k) else if ack then false else r.done := by
  grind [Rs.next]

theorem Rs.next_idx (k : Nat) (latch : Bool) (b : Octet) (ack : Bool) (r : Rs) :
    (Rs.next k latch b ack r).idx =
      if latch then if r.idx + 1 = k then 0 else r.idx + 1 else r.idx := by
  grind [Rs.next]

theorem Rs.next_chunks (k : Nat) (latch : Bool) (b : Octet) (ack : Bool) (r : Rs) :
    (Rs.next k latch b ack r).chunks = if latch then r.chunks.set r.idx b else r.chunks := by
  grind [Rs.next]

/-! ### The invariants of R51 -/

/-- A timer that counts stays in its range (40_divider.md R103). -/
theorem tickDown_lt {t d : Nat} (h : t + 1 ≤ d) : tickDown t d + 1 ≤ d := by
  cases t with
  | zero => rw [tickDown_zero]; omega
  | succ t => rw [tickDown_succ]; omega

/-- R51, item 1, for RX: a reset, the half period and the count down all stay below `D`. -/
theorem Rx.next_timer_lt {d : Nat} {r : Rx} (line ack rst : Bool) (h : r.timer + 1 ≤ d) :
    (Rx.next d line ack rst r).timer + 1 ≤ d := by
  have hcount : tickDown r.timer d + 1 ≤ d := tickDown_lt h
  rw [Rx.next_timer]
  split
  · omega
  · split <;> omega

/-- R51, item 1, for TX: a reset, the reload with `D - 1` and the count down all stay below `D`. -/
theorem Tx.next_timer_lt {d : Nat} {x : Tx} (rdy : Bool) (b : Octet) (rst : Bool) (h : x.timer + 1 ≤ d) :
    (Tx.next d rdy b rst x).timer + 1 ≤ d := by
  have hcount : tickDown x.timer d + 1 ≤ d := tickDown_lt h
  rw [Tx.next_timer]
  split
  · omega
  · split <;> omega

/-- R51, item 2, for RX: DATA is left only by a reset or at bit 7, and `7 + 1` is 0 in three bits. -/
theorem Rx.next_bitno_eq_zero {d : Nat} {line ack rst : Bool} {r : Rx}
    (hb : r.state ≠ .data → r.bitno = 0) (h : (Rx.next d line ack rst r).state ≠ .data) :
    (Rx.next d line ack rst r).bitno = 0 := by
  have hwrap : (7 : BitVec 3) + 1 = 0 := rfl
  rw [ne_eq, Rx.next_state_eq_data_iff] at h
  rw [Rx.next_bitno]
  grind

/-- R51, item 2, for TX. -/
theorem Tx.next_bitno_eq_zero {d : Nat} {rdy : Bool} {b : Octet} {rst : Bool} {x : Tx}
    (hb : x.state ≠ .data → x.bitno = 0) (h : (Tx.next d rdy b rst x).state ≠ .data) :
    (Tx.next d rdy b rst x).bitno = 0 := by
  have hwrap : (7 : BitVec 3) + 1 = 0 := rfl
  rw [ne_eq, Tx.next_state_eq_data_iff] at h
  rw [Tx.next_bitno]
  grind

/-- R51, item 7: the two flags name two different states. -/
theorem State.not_rxReady_and_rxErr (s : State) : ¬(s.rxReady = true ∧ s.rxErr = true) := by
  simp only [State.rxReady, State.rxErr, beq_iff_eq]
  rintro ⟨hfull, herror⟩
  cases hfull.symm.trans herror

theorem step_keeps_rxInv {s t : State} (h : step s = .next t) (hs : s.RxInv) : t.RxInv := by
  obtain ⟨htimer, hbitno, -⟩ := hs
  refine ⟨?_, ?_, t.not_rxReady_and_rxErr⟩
  · rw [step_rx h, step_params h]
    exact Rx.next_timer_lt _ _ _ htimer
  · rw [step_rx h]
    exact Rx.next_bitno_eq_zero hbitno

theorem step_keeps_txInv {s t : State} (h : step s = .next t) (hs : s.TxInv) : t.TxInv := by
  obtain ⟨htimer, hbitno, -⟩ := hs
  rw [State.TxInv, step_tx h, step_params h]
  exact ⟨Tx.next_timer_lt _ _ _ htimer, Tx.next_bitno_eq_zero hbitno, Tx.next_o_of_idle⟩

/-- A length byte that is neither 0 nor 1 is at least 2. -/
theorem two_le_toNat {b : Octet} (h0 : b ≠ 0) (h1 : b ≠ 1) : 2 ≤ b.toNat := by
  bv_omega

/-- R51, items 4 and 5, and R35: a block opens with a length of at least 2, and counts on only while a byte is
missing, so that the counter does not wrap. -/
theorem step_keeps_cobsInv {s t : State} (h : step s = .next t) (hs : s.CobsInv) : t.CobsInv := by
  have hedge : Cobs.Edge s.iRdy s.iData s.cobs t.cobs := Cobs.next_eq_some_iff.mp (step_cobs h)
  obtain ⟨hblock, hawait⟩ := hs
  unfold State.CobsInv
  generalize s.iRdy = rdy, s.iData = b, s.cobs = c, t.cobs = d at *
  cases hedge with
  | idle => exact ⟨hblock, hawait⟩
  | lenOne hst => simp
  | lenN hst h0 h1 =>
    simpa using two_le_toNat h0 h1
  | dataMid hst hl =>
    obtain ⟨hlen, hcnt, hzp⟩ := hblock hst
    have hlt : c.len.toNat < 256 := c.len.isLt
    have hcnt' : (c.cnt + 1).toNat = c.cnt.toNat + 1 := by bv_omega
    simp only [hst, hcnt']
    exact ⟨fun _ => ⟨hlen, by omega, hzp⟩, nofun⟩
  | dataLast hst hl => simp

/-- R51, item 3, and R40: the index goes from `K - 1` to 0, and a store keeps the number of chunks. -/
theorem step_keeps_rsInv {s t : State} (h : step s = .next t) (hs : s.RsInv) : t.RsInv := by
  obtain ⟨hidx, hlen⟩ := hs
  rw [State.RsInv, step_rs h, step_params h]
  constructor
  · rw [Rs.next_idx]
    split
    · split <;> omega
    · exact hidx
  · rw [Rs.next_chunks]
    split
    · rw [List.length_set, hlen]
    · exact hlen

theorem step_keeps_inv {s t : State} (h : step s = .next t) (hs : s.Inv) : t.Inv := by
  obtain ⟨hrx, htx, hcobs, hrs⟩ := hs
  exact ⟨step_keeps_rxInv h hrx, step_keeps_txInv h htx, step_keeps_cobsInv h hcobs,
    step_keeps_rsInv h hrs⟩

/-- The decoder shows a byte after an edge exactly when it took one, and it was data or a zero was owed
(43_cobs_decoder.md R162, R165, R167, R168). -/
theorem Cobs.Edge.oRdy_iff {rdy : Bool} {b : Octet} {c d : Cobs} (h : Cobs.Edge rdy b c d) :
    d.oRdy = true ↔ rdy = true ∧ (c.state = .inBlock ∨ c.zp = true) := by
  cases h with
  | idle => simp
  | lenOne hst => simp [hst]
  | lenN hst => simp [hst]
  | dataMid hst => simp [hst]
  | dataLast hst => simp [hst]

theorem step_oRdy_iff {s t : State} (h : step s = .next t) :
    t.oRdy = true ↔ s.iRdy = true ∧ (s.cobs.state = .inBlock ∨ s.cobs.zp = true) :=
  (Cobs.next_eq_some_iff.mp (step_cobs h)).oRdy_iff

/-- Settles O32: each machine's transition graph keeps its own part of the invariant. -/
theorem stepKeepsTheInvariant : Obligations.StepKeepsTheInvariant := by
  intro s t hs h
  exact ⟨step_keeps_inv h hs, fun hshown => ((step_oRdy_iff h).mp hshown).1⟩

theorem initial_inv {p : Params} (hp : p.InRange) (draw : DataDraw) (stim : List Inputs) :
    (State.initial p draw stim).Inv := by
  obtain ⟨hrx, htx, hk⟩ := hp
  refine ⟨⟨?_, fun _ => rfl, State.not_rxReady_and_rxErr _⟩, ⟨?_, fun _ => rfl, fun _ => rfl⟩,
    ⟨nofun, fun _ => rfl⟩, ?_, fitChunks_length _ _⟩
  · simpa using hrx
  · simpa using htx
  · simpa using hk

theorem Config.params_inRange : Config.params.InRange :=
  ⟨Nat.le_add_left 1 _, Nat.le_add_left 1 _, Nat.le_add_left 1 _⟩

/-- Settles O31: timers and index start at 0, which is in range for parameters of at least 1. -/
theorem invariantHoldsInitially : Obligations.InvariantHoldsInitially :=
  ⟨fun _ draw stim hp => initial_inv hp draw stim, initial_inv Config.params_inRange _ _⟩

/-! ### Ownership of the registers (R20) -/

/-- `s` with the registers of machine `m` taken from `u`, and nothing else. -/
def State.adopt (s : State) (m : Agent) (u : State) : State :=
  match m with
  | .rx => s.setRx u.rx
  | .tx => s.setTx u.tx
  | .cobs => s.setCobs u.cobs
  | .rs => s.setRs u.rs

theorem State.adopt_frame (s : State) (m : Agent) (u : State) :
    (m ≠ .rx → (s.adopt m u).rx = s.rx) ∧ (m ≠ .tx → (s.adopt m u).tx = s.tx) ∧
    (m ≠ .cobs → (s.adopt m u).cobs = s.cobs) ∧ (m ≠ .rs → (s.adopt m u).rs = s.rs) ∧
    (s.adopt m u).params = s.params ∧ (s.adopt m u).stimulus = s.stimulus ∧
    (s.adopt m u).tick = s.tick := by
  cases m <;> simp [State.adopt]

/-- An operation that answers a next state is a write of its own machine's registers. -/
theorem exec_eq_adopt {i : Instr} {s t : State} (h : exec i s = .next t) : t = s.adopt i.agent t := by
  cases i with
  | cobsLenZero l => cases h
  | _ => cases h; rfl

/-- Settles O11: the frame of a write of one machine's registers. -/
theorem machinesOwnTheirRegisters : Obligations.MachinesOwnTheirRegisters := by
  intro i s t h
  rw [exec_eq_adopt h]
  exact s.adopt_frame i.agent t

/-! ### The flag `done` (R41) -/

/-- The life of `done` over one step, with the index compared in natural numbers. -/
theorem step_done {s t : State} (h : step s = .next t) :
    t.done = if s.iLatch then decide (s.rs.idx + 1 = s.params.k)
      else if s.outReadAck then false else s.done := by
  rw [State.done, step_rs h, Rs.next_done, State.done]

/-- Settles O36: `idx = K - 1` is `idx + 1 = K`, for `K` at least 1. -/
theorem doneIsSetByTheLastChunkOnly : Obligations.DoneIsSetByTheLastChunkOnly := by
  refine ⟨fun _ _ _ => rfl, fun s t hk h => ?_⟩
  rw [step_done h]
  refine ⟨fun hlatch hidx => ?_, fun hlatch hidx => ?_, fun hlatch hack => ?_, fun hlatch hack => ?_⟩
  · rw [if_pos hlatch]
    exact decide_eq_true (by omega)
  · rw [if_pos hlatch]
    exact decide_eq_false (by omega)
  · simp [hlatch, hack]
  · simp [hlatch, hack]

/-! ### The flags of RX (R44) -/

theorem State.rxReady_iff (s : State) : s.rxReady = true ↔ s.rx.state = .full := by
  simp [State.rxReady]

theorem State.rxErr_iff (s : State) : s.rxErr = true ↔ s.rx.state = .error := by
  simp [State.rxErr]

theorem State.txAck_iff (s : State) : s.txAck = true ↔ s.tx.state = .idle := by
  simp [State.txAck]

theorem step_rxReady_iff {s t : State} (h : step s = .next t) :
    t.rxReady = true ↔
      s.rxRst = false ∧ s.rxI = true ∧
        (s.rx.state = .stop ∧ s.rx.timer = 0 ∨ s.rx.state = .full ∧ s.rxAck = false) := by
  rw [State.rxReady_iff, step_rx h, Rx.next_state_eq_full_iff]

theorem step_rxErr_iff {s t : State} (h : step s = .next t) :
    t.rxErr = true ↔
      s.rxRst = false ∧ (s.rx.state = .error ∨
        s.rxI = false ∧ (s.rx.state = .stop ∧ s.rx.timer = 0 ∨ s.rx.state = .full ∧ s.rxAck = false)) := by
  rw [State.rxErr_iff, step_rx h, Rx.next_state_eq_error_iff]

/-- A reset level selects `RX.RESET` in every state (41_uart_rx.md R112). -/
theorem fetch_rxReset {s : State} (hrst : s.rxRst = true) :
    ∃ c p q a l, fetch .rx s = some (.rxReset c p q a l) :=
  ⟨s.rx.state.code, s.rxStb, s.rxI, s.rxAck, s.rxLast, by simp [fetch_rx, rxOperation, hrst]⟩

/-- A full receiver that meets a low line and no acknowledge selects `RX.FULL.OVERRUN` (R124). -/
theorem fetch_rxFullOverrun {s : State} (hrst : s.rxRst = false) (hst : s.rx.state = .full)
    (hack : s.rxAck = false) (hline : s.rxI = false) :
    ∃ p l, fetch .rx s = some (.rxFullOverrun p l) :=
  ⟨s.rxStb, s.rxLast, by simp [fetch_rx, rxOperation, hrst, hst, hack, hline]⟩

theorem rxReady_rises {s t : State} (h : step s = .next t) (h0 : s.rxReady = false)
    (h1 : t.rxReady = true) : ∃ a l, fetch .rx s = some (.rxStopOk a l) := by
  obtain ⟨hrst, hline, ⟨hst, ht⟩ | ⟨hst, -⟩⟩ := (step_rxReady_iff h).mp h1
  · exact ⟨s.rxAck, s.rxLast, by simp [fetch_rx, rxOperation, State.rxStb, hrst, hline, hst, ht]⟩
  · simp [State.rxReady, hst] at h0

theorem rxReady_falls {s t : State} (h : step s = .next t) (h0 : s.rxReady = true)
    (h1 : t.rxReady = false) :
    (∃ p q l, fetch .rx s = some (.rxFullAck p q l)) ∨
    (∃ p l, fetch .rx s = some (.rxFullOverrun p l)) ∨
    (∃ c p q a l, fetch .rx s = some (.rxReset c p q a l)) := by
  have hst : s.rx.state = .full := s.rxReady_iff.mp h0
  cases hrst : s.rxRst with
  | true => exact .inr (.inr (fetch_rxReset hrst))
  | false =>
    cases hack : s.rxAck with
    | true => exact .inl ⟨s.rxStb, s.rxI, s.rxLast, by simp [fetch_rx, rxOperation, hrst, hst, hack]⟩
    | false =>
      cases hline : s.rxI with
      | true =>
        have hstays : t.rxReady = true := (step_rxReady_iff h).mpr ⟨hrst, hline, .inr ⟨hst, hack⟩⟩
        rw [hstays] at h1
        cases h1
      | false => exact .inr (.inl (fetch_rxFullOverrun hrst hst hack hline))

theorem rxErr_rises {s t : State} (h : step s = .next t) (h0 : s.rxErr = false) (h1 : t.rxErr = true) :
    (∃ a l, fetch .rx s = some (.rxStopFerr a l)) ∨ (∃ p l, fetch .rx s = some (.rxFullOverrun p l)) := by
  obtain ⟨hrst, hst | ⟨hline, ⟨hst, ht⟩ | ⟨hst, hack⟩⟩⟩ := (step_rxErr_iff h).mp h1
  · simp [State.rxErr, hst] at h0
  · exact .inl ⟨s.rxAck, s.rxLast, by simp [fetch_rx, rxOperation, State.rxStb, hrst, hline, hst, ht]⟩
  · exact .inr (fetch_rxFullOverrun hrst hst hack hline)

theorem rxErr_falls {s t : State} (h : step s = .next t) (h0 : s.rxErr = true) (h1 : t.rxErr = false) :
    ∃ c p q a l, fetch .rx s = some (.rxReset c p q a l) := by
  cases hrst : s.rxRst with
  | true => exact fetch_rxReset hrst
  | false =>
    have hstays : t.rxErr = true := (step_rxErr_iff h).mpr ⟨hrst, .inl (s.rxErr_iff.mp h0)⟩
    rw [hstays] at h1
    cases h1

/-! ### The flag of TX (R44) -/

theorem step_txAck_iff {s t : State} (h : step s = .next t) :
    t.txAck = true ↔
      s.txRst = true ∨ s.tx.state = .idle ∧ s.txRdy = false ∨ s.tx.state = .stop ∧ s.tx.timer = 0 := by
  rw [State.txAck_iff, step_tx h, Tx.next_state_eq_idle_iff]

theorem txAck_rises {s t : State} (h : step s = .next t) (h0 : s.txAck = false) (h1 : t.txAck = true) :
    (∃ q l, fetch .tx s = some (.txStopDrive q l)) ∨ (∃ c p q l, fetch .tx s = some (.txReset c p q l)) := by
  cases hrst : s.txRst with
  | true => exact .inr ⟨s.tx.state.code, s.txStb, s.txRdy, s.txLast, by simp [fetch_tx, txOperation, hrst]⟩
  | false =>
    obtain hrst' | ⟨hst, -⟩ | ⟨hst, ht⟩ := (step_txAck_iff h).mp h1
    · rw [hrst] at hrst'
      cases hrst'
    · simp [State.txAck, hst] at h0
    · exact .inl ⟨s.txRdy, s.txLast, by simp [fetch_tx, txOperation, State.txStb, hrst, hst, ht]⟩

theorem txAck_falls {s t : State} (h : step s = .next t) (h0 : s.txAck = true) (h1 : t.txAck = false) :
    ∃ p l, fetch .tx s = some (.txIdleLoad p l) := by
  have hst : s.tx.state = .idle := s.txAck_iff.mp h0
  have hleaves : ¬t.txAck = true := by simp [h1]
  rw [step_txAck_iff h] at hleaves
  simp only [hst, true_and, not_or, Bool.not_eq_true, Bool.not_eq_false] at hleaves
  obtain ⟨hrst, hrdy, -⟩ := hleaves
  exact ⟨s.txStb, s.txLast, by simp [fetch_tx, txOperation, hrst, hst, hrdy]⟩

/-! ### The pending zero of COBS (R37, R44) -/

/-- A zero becomes owed at the end of a block, but for one of length 255 (43_cobs_decoder.md R163, R168). -/
theorem Cobs.Edge.zp_rises {rdy : Bool} {b : Octet} {c d : Cobs} (h : Cobs.Edge rdy b c d)
    (h0 : c.zp = false) (h1 : d.zp = true) :
    rdy = true ∧ (c.state = .awaitLen ∧ b = 1 ∨
      c.state = .inBlock ∧ c.cnt.toNat + 2 = c.len.toNat ∧ c.len ≠ 255) := by
  cases h with
  | idle => simp [h0] at h1
  | lenOne hst => exact ⟨rfl, .inl ⟨hst, rfl⟩⟩
  | lenN hst => cases h1
  | dataMid hst => simp [h0] at h1
  | dataLast hst hl => exact ⟨rfl, .inr ⟨hst, hl, of_decide_eq_true h1⟩⟩

/-- An owed zero is dropped where it is shown before a block with data, or at the end of a block of length 255. -/
theorem Cobs.Edge.zp_falls {rdy : Bool} {b : Octet} {c d : Cobs} (h : Cobs.Edge rdy b c d)
    (h0 : c.zp = true) (h1 : d.zp = false) :
    rdy = true ∧ (c.state = .awaitLen ∧ b ≠ 0 ∧ b ≠ 1 ∨
      c.state = .inBlock ∧ c.cnt.toNat + 2 = c.len.toNat ∧ c.len = 255) := by
  cases h with
  | idle => simp [h0] at h1
  | lenOne hst => cases h1
  | lenN hst hb0 hb1 => exact ⟨rfl, .inl ⟨hst, hb0, hb1⟩⟩
  | dataMid hst => simp [h0] at h1
  | dataLast hst hl => exact ⟨rfl, .inr ⟨hst, hl, not_not.mp (of_decide_eq_false h1)⟩⟩

/-- The last byte of a block selects `COBS.DATA.LAST` (43_cobs_decoder.md R168). -/
theorem fetch_cobsDataLast {s : State} (hrdy : s.iRdy = true) (hst : s.cobs.state = .inBlock)
    (hl : s.cobs.cnt.toNat + 2 = s.cobs.len.toNat) : ∃ v, fetch .cobs s = some (.cobsDataLast v) :=
  ⟨valueClass s.iData, by simp [fetch_cobs, cobsOperation, hrdy, hst, s.cobsLast_iff.mpr hl]⟩

theorem zp_rises {s t : State} (h : step s = .next t) (h0 : s.cobs.zp = false) (h1 : t.cobs.zp = true) :
    (∃ l, fetch .cobs s = some (.cobsLenOne l)) ∨
    ((∃ v, fetch .cobs s = some (.cobsDataLast v)) ∧ s.cobs.len ≠ 255) := by
  have hedge : Cobs.Edge s.iRdy s.iData s.cobs t.cobs := Cobs.next_eq_some_iff.mp (step_cobs h)
  obtain ⟨hrdy, ⟨hst, hb⟩ | ⟨hst, hl, hlen⟩⟩ := hedge.zp_rises h0 h1
  · exact .inl ⟨s.cobsLast, by simp [fetch_cobs, cobsOperation, hrdy, hst, hb]⟩
  · exact .inr ⟨fetch_cobsDataLast hrdy hst hl, hlen⟩

theorem zp_falls {s t : State} (h : step s = .next t) (h0 : s.cobs.zp = true) (h1 : t.cobs.zp = false) :
    (∃ l, fetch .cobs s = some (.cobsLenN l)) ∨
    ((∃ v, fetch .cobs s = some (.cobsDataLast v)) ∧ s.cobs.len = 255) := by
  have hedge : Cobs.Edge s.iRdy s.iData s.cobs t.cobs := Cobs.next_eq_some_iff.mp (step_cobs h)
  obtain ⟨hrdy, ⟨hst, hb0, hb1⟩ | ⟨hst, hl, hlen⟩⟩ := hedge.zp_falls h0 h1
  · exact .inl ⟨s.cobsLast, by
      simp only [fetch_cobs, cobsOperation, hrdy, hst, hb0, hb1, if_true, if_false]⟩
  · exact .inr ⟨fetch_cobsDataLast hrdy hst hl, hlen⟩

/-! ### `done`, by operation (R44) -/

theorem done_rises {s t : State} (h : step s = .next t) (h0 : s.done = false) (h1 : t.done = true) :
    ∃ a, fetch .rs s = some (.rsWriteLast a) := by
  rw [step_done h] at h1
  cases hlatch : s.iLatch with
  | true =>
    have hidx : s.rs.idx + 1 = s.params.k := by simpa [hlatch] using h1
    exact ⟨s.outReadAck, by simp [fetch_rs, rsOperation, State.rsLast, hlatch, hidx]⟩
  | false => simp [hlatch, h0] at h1

theorem done_falls {s t : State} (h : step s = .next t) (h0 : s.done = true) (h1 : t.done = false) :
    (∃ a, fetch .rs s = some (.rsWriteMid a)) ∨ (∃ l, fetch .rs s = some (.rsAck l)) := by
  rw [step_done h] at h1
  cases hlatch : s.iLatch with
  | true =>
    have hidx : s.rs.idx + 1 ≠ s.params.k := by simpa [hlatch] using h1
    exact .inl ⟨s.outReadAck, by simp [fetch_rs, rsOperation, State.rsLast, hlatch, hidx]⟩
  | false =>
    have hack : s.outReadAck = true := by simpa [hlatch, h0] using h1
    exact .inr ⟨s.rsLast, by simp [fetch_rs, rsOperation, hlatch, hack]⟩

/-- Settles O35: each flag's rise and fall, by the edges of its machine's graph. -/
theorem flagsChangeOnlyAsListed : Obligations.FlagsChangeOnlyAsListed := by
  intro s t h
  exact ⟨rxReady_rises h, rxReady_falls h, rxErr_rises h, rxErr_falls h, txAck_rises h, txAck_falls h,
    step_oRdy_iff h, zp_rises h, zp_falls h, done_rises h, done_falls h⟩

/-! ### The unspecified data registers (R50)

Two runs from two draws stay in agreement: equal but for the data that no flag has made valid yet. For each
machine, which data that is, and that its transition graph keeps the agreement. -/

/-- How many of the highest bits of the shift register are samples of the current frame. -/
def Rx.knownBits (r : Rx) : Nat :=
  match r.state with
  | .data => r.bitno.toNat
  | .stop => 8
  | .full => 8
  | _ => 0

/-- Equal but for the bits of the shift register that are not samples of the current frame. -/
structure Rx.Agree (r r' : Rx) : Prop where
  control : r' = { r with shreg := r'.shreg }
  samples : ∀ i, 8 ≤ i + r.knownBits → r'.shreg.getLsbD i = r.shreg.getLsbD i

/-- The shift register decides nothing but its own next value. -/
theorem Rx.next_control (d : Nat) (line ack rst : Bool) (r : Rx) (v : Octet) :
    Rx.next d line ack rst { r with shreg := v } =
      { Rx.next d line ack rst r with shreg := (Rx.next d line ack rst { r with shreg := v }).shreg } := by
  cases hst : r.state <;> grind [Rx.next]

/-- A frame gains a known bit by a sample only; it needs the bit counter to start DATA at 0 (R51, item 2). -/
theorem Rx.knownBits_next_le (d : Nat) (line ack rst : Bool) {r : Rx}
    (hb : r.state ≠ .data → r.bitno = 0) :
    (Rx.next d line ack rst r).knownBits ≤
      if rst = false ∧ r.state = .data ∧ r.timer = 0 then r.knownBits + 1 else r.knownBits := by
  have hcount : (r.bitno + 1).toNat ≤ r.bitno.toNat + 1 := by bv_omega
  cases hst : r.state <;> grind [Rx.next, Rx.knownBits]

/-- A sample shifts the known bits down by one place and enters above them (41_uart_rx.md R118). -/
theorem Rx.Agree.next {r r' : Rx} (h : Rx.Agree r r') (hb : r.state ≠ .data → r.bitno = 0)
    (d : Nat) (line ack rst : Bool) :
    Rx.Agree (Rx.next d line ack rst r) (Rx.next d line ack rst r') := by
  obtain ⟨hcontrol, hsamples⟩ := h
  generalize r'.shreg = v at hcontrol hsamples
  subst hcontrol
  refine ⟨Rx.next_control d line ack rst r v, fun i hi => ?_⟩
  have hknown := Rx.knownBits_next_le d line ack rst hb
  rw [Rx.next_shreg, Rx.next_shreg]
  split at hknown
  next hsample =>
    rw [if_pos hsample, if_pos hsample, pushHigh_getLsbD, pushHigh_getLsbD, hsamples (i + 1) (by omega)]
  next hkeep =>
    rw [if_neg hkeep, if_neg hkeep, hsamples i (by omega)]

/-- A full receiver shows eight samples. -/
theorem Rx.Agree.shreg_eq {r r' : Rx} (h : Rx.Agree r r') (hst : r.state = .full) : r'.shreg = r.shreg :=
  BitVec.eq_of_getLsbD_eq fun i _ => h.samples i (by simp [Rx.knownBits, hst])

/-- Equal but for the shift register of an idle transmitter. -/
structure Tx.Agree (x x' : Tx) : Prop where
  control : x' = { x with shreg := x'.shreg }
  loaded : x.state ≠ .idle → x'.shreg = x.shreg

/-- An idle transmitter stays idle or loads the same octet; a busy one agrees in every register. -/
theorem Tx.Agree.next {x x' : Tx} (h : Tx.Agree x x') (d : Nat) (rdy : Bool) (b : Octet) (rst : Bool) :
    Tx.Agree (Tx.next d rdy b rst x) (Tx.next d rdy b rst x') := by
  obtain ⟨hcontrol, hloaded⟩ := h
  by_cases hst : x.state = .idle
  · constructor <;> grind [Tx.next]
  · rw [hloaded hst] at hcontrol
    rw [hcontrol]
    exact ⟨rfl, fun _ => rfl⟩

/-- Equal but for the length outside a block and the output byte that `o_rdy` does not show. -/
structure Cobs.Agree (c c' : Cobs) : Prop where
  control : c' = { c with len := c'.len, oData := c'.oData }
  length : c.state = .inBlock → c'.len = c.len
  shown : c.oRdy = true → c'.oData = c.oData

/-- A block opens with the length byte taken, and a shown byte is the byte taken or a zero. -/
theorem Cobs.Agree.next {rdy : Bool} {b b' : Octet} {c c' d : Cobs} (h : Cobs.Agree c c')
    (hb : rdy = true → b' = b) (hd : Cobs.next rdy b c = some d) :
    ∃ d', Cobs.next rdy b' c' = some d' ∧ Cobs.Agree d d' := by
  obtain ⟨hcontrol, hlength, hshown⟩ := h
  generalize c'.len = n, c'.oData = o at hcontrol hlength hshown
  subst hcontrol
  cases Cobs.next_eq_some_iff.mp hd with
  | idle => exact ⟨_, Cobs.next_idle _ _, rfl, hlength, nofun⟩
  | lenOne hst =>
    rw [hb rfl]
    exact ⟨_, Cobs.next_lenOne hst, by simp, fun _ => rfl, fun hzp => by rw [if_pos hzp, if_pos hzp]⟩
  | lenN hst h0 h1 =>
    rw [hb rfl]
    exact ⟨_, Cobs.next_lenN hst h0 h1, by simp, fun _ => rfl, fun hzp => by rw [if_pos hzp, if_pos hzp]⟩
  | dataMid hst hl =>
    obtain rfl := hlength hst
    rw [hb rfl]
    exact ⟨_, Cobs.next_dataMid b hst hl, rfl, fun _ => rfl, fun _ => rfl⟩
  | dataLast hst hl =>
    obtain rfl := hlength hst
    rw [hb rfl]
    exact ⟨_, Cobs.next_dataLast b hst hl, rfl, fun _ => rfl, fun _ => rfl⟩

/-- Equal but for the chunks that the word under way has not written and `done` does not show. -/
structure Rs.Agree (r r' : Rs) : Prop where
  control : r' = { r with chunks := r'.chunks }
  length : r'.chunks.length = r.chunks.length
  written : ∀ i, i < r.idx ∨ r.done = true → r'.chunks[i]? = r.chunks[i]?

/-- A latch writes the same chunk at the same index; where that completes the word, every chunk is written. -/
theorem Rs.Agree.next {k : Nat} {latch ack : Bool} {b b' : Octet} {r r' : Rs} (h : Rs.Agree r r')
    (hk : r.chunks.length = k) (hb : latch = true → b' = b) :
    Rs.Agree (Rs.next k latch b ack r) (Rs.next k latch b' ack r') := by
  obtain ⟨hcontrol, hlength, hwritten⟩ := h
  generalize r'.chunks = l at hcontrol hlength hwritten
  subst hcontrol
  cases latch with
  | false => cases ack <;> grind [Rs.next, Rs.Agree]
  | true =>
    rw [hb rfl]
    constructor <;> grind [Rs.next]

theorem Rs.Agree.chunks_eq {r r' : Rs} (h : Rs.Agree r r') (hdone : r.done = true) :
    r'.chunks = r.chunks :=
  List.ext_getElem? fun i => h.written i (.inr hdone)

/-- Two states that agree machine by machine, with the same parameters and inputs. -/
structure State.Agree (s s' : State) : Prop where
  rx : Rx.Agree s.rx s'.rx
  tx : Tx.Agree s.tx s'.tx
  cobs : Cobs.Agree s.cobs s'.cobs
  rs : Rs.Agree s.rs s'.rs
  params : s'.params = s.params
  stimulus : s'.stimulus = s.stimulus
  tick : s'.tick = s.tick

/-! Agreeing states read the same inputs, where an octet counts only under its request. -/

theorem State.Agree.rx_state {s s' : State} (h : State.Agree s s') : s'.rx.state = s.rx.state := by
  rw [h.rx.control]

theorem State.Agree.txO {s s' : State} (h : State.Agree s s') : s'.txO = s.txO := by
  rw [State.txO, State.txO, h.tx.control]

theorem State.Agree.oRdy {s s' : State} (h : State.Agree s s') : s'.oRdy = s.oRdy := by
  rw [State.oRdy, State.oRdy, h.cobs.control]

theorem State.Agree.rxReady {s s' : State} (h : State.Agree s s') : s'.rxReady = s.rxReady := by
  rw [State.rxReady, State.rxReady, h.rx_state]

theorem State.Agree.driven {s s' : State} (h : State.Agree s s') : s'.driven = s.driven := by
  rw [State.driven, State.driven, h.stimulus, h.tick]

theorem State.Agree.rxI {s s' : State} (h : State.Agree s s') : s'.rxI = s.rxI := by
  rw [State.rxI, State.rxI, h.params, h.txO, h.driven]

theorem State.Agree.rxAck {s s' : State} (h : State.Agree s s') : s'.rxAck = s.rxAck := by
  rw [State.rxAck, State.rxAck, h.params, h.driven]

theorem State.Agree.iRdy {s s' : State} (h : State.Agree s s') : s'.iRdy = s.iRdy := by
  rw [State.iRdy, State.iRdy, h.params, h.rxReady, h.driven]

theorem State.Agree.iLatch {s s' : State} (h : State.Agree s s') : s'.iLatch = s.iLatch := by
  rw [State.iLatch, State.iLatch, h.params, h.oRdy, h.driven]

theorem State.Agree.rxData {s s' : State} (h : State.Agree s s') (hready : s.rxReady = true) :
    s'.rxData = s.rxData :=
  h.rx.shreg_eq (s.rxReady_iff.mp hready)

theorem State.Agree.oData {s s' : State} (h : State.Agree s s') (hrdy : s.oRdy = true) :
    s'.oData = s.oData :=
  h.cobs.shown hrdy

/-- The decoder's input byte, in the pipeline the receiver's, is agreed on when it is taken (45_pipeline.md R197). -/
theorem State.Agree.iData {s s' : State} (h : State.Agree s s') (hrdy : s.iRdy = true) :
    s'.iData = s.iData := by
  rw [State.iData, State.iData, h.params, h.driven]
  split
  next hwired => exact h.rxData (by simpa [State.iRdy, hwired] using hrdy)
  next => rfl

/-- The restrider's input chunk, in the pipeline the decoder's, is agreed on when it is latched (45_pipeline.md R199). -/
theorem State.Agree.rsData {s s' : State} (h : State.Agree s s') (hlatch : s.iLatch = true) :
    s'.rsData = s.rsData := by
  rw [State.rsData, State.rsData, h.params, h.driven]
  split
  next hwired => exact h.oData (by simpa [State.iLatch, hwired] using hlatch)
  next => rfl

theorem State.Agree.outWord_toNat {s s' : State} (h : State.Agree s s') (hdone : s.done = true) :
    s'.outWord.toNat = s.outWord.toNat := by
  simp only [State.outWord, BitVec.toNat_ofNat, h.params, h.rs.chunks_eq hdone]

/-- A consumer that obeys the valid flags cannot tell agreeing states apart. -/
theorem State.Agree.observe_eq {s s' : State} (h : State.Agree s s') : s'.observe = s.observe := by
  have htxAck : s'.txAck = s.txAck := by rw [State.txAck, State.txAck, h.tx.control]
  have hrxErr : s'.rxErr = s.rxErr := by rw [State.rxErr, State.rxErr, h.rx_state]
  have hdone : s'.done = s.done := by rw [State.done, State.done, h.rs.control]
  rw [State.observe, State.observe, h.txO, htxAck, h.rxReady, hrxErr, h.oRdy, hdone]
  congr 1
  · exact ite_congr rfl (fun hv => by rw [h.rxData hv]) fun _ => rfl
  · exact ite_congr rfl (fun hv => by rw [h.oData hv]) fun _ => rfl
  · exact ite_congr rfl (fun hv => by rw [h.outWord_toNat hv]) fun _ => rfl

/-- Agreement is a simulation: where one state steps the other does too, into agreement. -/
theorem step_agree {s s' t : State} (h : State.Agree s s') (hs : s.Inv) (hstep : step s = .next t) :
    ∃ t', step s' = .next t' ∧ State.Agree t t' := by
  obtain ⟨⟨-, hbitno, -⟩, -, -, ⟨-, hchunks⟩⟩ := hs
  obtain ⟨c, hc, rfl⟩ := step_eq_next_iff.mp hstep
  obtain ⟨c', hc', hcobs⟩ := h.cobs.next h.iData hc
  refine ⟨_, step_eq_next_iff.mpr ⟨c', by rw [h.iRdy]; exact hc', rfl⟩, ?_, ?_, hcobs, ?_, h.params, ?_, ?_⟩
  · rw [State.latch_rx, State.latch_rx, State.rxRst, State.rxRst, h.params, h.rxI, h.rxAck, h.driven]
    exact h.rx.next hbitno _ _ _ _
  · rw [State.latch_tx, State.latch_tx, State.txRdy, State.txRdy, State.txData, State.txData, State.txRst,
      State.txRst, h.params, h.driven]
    exact h.tx.next _ _ _ _
  · rw [State.latch_rs, State.latch_rs, State.outReadAck, State.outReadAck, h.params, h.iLatch, h.driven]
    exact h.rs.next hchunks h.rsData
  · rw [State.latch_stimulus, State.latch_stimulus, h.stimulus]
  · rw [State.latch_tick, State.latch_tick, h.tick]

theorem run_agree {n : Nat} {s s' t : State} (h : State.Agree s s') (hs : s.Inv)
    (hrun : run n s = .next t) : ∃ t', run n s' = .next t' ∧ State.Agree t t' := by
  induction n generalizing s s' with
  | zero => cases hrun; exact ⟨s', rfl, h⟩
  | succ n ih =>
    obtain ⟨u, hstep, hrest⟩ := run_succ_inv hrun
    obtain ⟨u', hstep', hu⟩ := step_agree h hs hstep
    obtain ⟨t', hrun', ht⟩ := ih hu (step_keeps_inv hstep hs) hrest
    exact ⟨t', by rw [run_succ_of_next n hstep', hrun'], ht⟩

/-- At initialisation no data is valid yet: no frame, no octet to send, no block, no chunk written. -/
theorem initial_agree (p : Params) (draw draw' : DataDraw) (stim : List Inputs) :
    State.Agree (State.initial p draw stim) (State.initial p draw' stim) where
  rx := ⟨rfl, fun i hi => by rw [BitVec.getLsbD_of_ge _ i hi, BitVec.getLsbD_of_ge _ i hi]⟩
  tx := ⟨rfl, fun hbusy => absurd rfl hbusy⟩
  cobs := ⟨rfl, nofun, nofun⟩
  rs := ⟨rfl, by simp, by simp⟩
  params := rfl
  stimulus := rfl
  tick := rfl

/-- Settles O34: initial states agree, runs keep agreement, and agreeing states show the same observation. -/
theorem unspecifiedDataIsNeverObserved : Obligations.UnspecifiedDataIsNeverObserved := by
  intro p draw draw' stim n s hp hrun
  obtain ⟨s', hrun', hagree⟩ := run_agree (initial_agree p draw draw' stim) (initial_inv hp draw stim) hrun
  exact ⟨s', hrun', hagree.observe_eq⟩

end Sys2Proof.Machine
end

section
/-! PROOFS. The statement of 20_memory.md: what each handshake keeps stable. -/

namespace Sys2Proof.Machine

/-- The transmitter's shift register is loaded by a request, shifted by a data strobe, and kept otherwise. -/
theorem Tx.next_shreg (d : Nat) (rdy : Bool) (b : Octet) (rst : Bool) (x : Tx) :
    (Tx.next d rdy b rst x).shreg =
      if rst then x.shreg
      else if x.state = .idle ∧ rdy = true then b
      else if x.state = .data ∧ x.timer = 0 then pushHigh false x.shreg
      else x.shreg := by
  cases hst : x.state <;> grind [Tx.next]

/-- A full receiver samples nothing, whether or not its octet is acknowledged (41_uart_rx.md R123 to R125). -/
theorem step_rxData_of_rxReady {s t : State} (h : step s = .next t) (hready : s.rxReady = true) :
    t.rxData = s.rxData := by
  have hst : s.rx.state = .full := s.rxReady_iff.mp hready
  rw [State.rxData, step_rx h, Rx.next_shreg, if_neg (by simp [hst]), State.rxData]

/-- Only a latched chunk changes the word (44_restrider.md R182 to R185). -/
theorem step_outWord_of_not_iLatch {s t : State} (h : step s = .next t) (hlatch : s.iLatch = false) :
    t.outWord.toNat = s.outWord.toNat := by
  have hchunks : t.rs.chunks = s.rs.chunks := by
    rw [step_rs h, Rs.next_chunks, hlatch, if_neg Bool.false_ne_true]
  simp only [State.outWord, BitVec.toNat_ofNat, step_params h, hchunks]

/-- An idle transmitter loads `tx_data` on a request and keeps its shift register otherwise (42_uart_tx.md R144). -/
theorem step_txShreg_of_txAck {s t : State} (h : step s = .next t) (hack : s.txAck = true) :
    t.tx.shreg = if s.txRst = false ∧ s.txRdy = true then s.txData else s.tx.shreg := by
  have hst : s.tx.state = .idle := s.txAck_iff.mp hack
  rw [step_tx h, Tx.next_shreg]
  cases s.txRst <;> simp [hst]

/-- Settles O39: a full receiver, a restrider without a latch and an idle transmitter without a request each keep
their data. -/
theorem handshakesKeepTheirDataStable : Obligations.HandshakesKeepTheirDataStable := by
  intro s t h
  refine ⟨fun hready _ => step_rxData_of_rxReady h hready,
    fun _ hlatch => step_outWord_of_not_iLatch h hlatch, fun hchanged hack => ?_⟩
  have hshreg := step_txShreg_of_txAck h hack
  split at hshreg
  next hload => exact ⟨hload.2, hshreg⟩
  next => exact absurd hshreg.symm hchanged

end Sys2Proof.Machine
end

section
/-! PROOFS. The statements of 30_encoding.md: the selector and its decoder, the opcode table, the placing of a
word, the word of the restrider's chunks, and the octet as its samples. -/

namespace Sys2Proof

/-! ### The selector word -/

/-- The word of the fields of a word is the word: no bit lies outside the fields (30_encoding.md R90). -/
theorem Selector.toWord_ofWord (w : SelectorWord) : (Selector.ofWord w).toWord = w := by
  have hcode : ∀ c : BitVec 2, (Agent.ofCode c).code = c := by decide
  apply BitVec.eq_of_getLsbD_eq
  intro i hi
  rw [Selector.toWord_getLsbD]
  simp only [Selector.ofWord, hcode]
  interval_cases i <;> simp

theorem encode_eq_toWord (i : Instr) : encode i = i.selector.toWord := rfl

theorem decode_eq_decodeSelector (w : SelectorWord) : decode w = decodeSelector (Selector.ofWord w) := rfl

theorem Instr.selector_m (i : Instr) : i.selector.m = i.agent := by cases i <;> rfl

/-! ### Operations to selectors and back (R91 to R94) -/

/-- The decoder reads every well-formed operation from its fields; only the free state codes and value classes
need the operation to be well formed. -/
theorem decodeSelector_selector {i : Instr} (h : i.wellFormed = true) :
    decodeSelector i.selector = .ok i := by
  cases i with
  | rxReset s p q a l =>
    have hs : s.toNat < 6 := by simpa [Instr.wellFormed, Agent.stateCodeOk] using h
    simp [Instr.selector, decodeSelector, decodeRx, hs]
  | txReset s p q l =>
    have hs : s.toNat < 4 := by simpa [Instr.wellFormed, Agent.stateCodeOk] using h
    simp [Instr.selector, decodeSelector, decodeTx, hs]
  | cobsIdle s l v =>
    obtain ⟨hs, hv⟩ : s.toNat < 2 ∧ v ≠ 3#2 := by
      simpa [Instr.wellFormed, Agent.stateCodeOk, valueClassOk] using h
    simp [Instr.selector, decodeSelector, decodeCobs, hs, hv]
  | cobsDataMid v =>
    have hv : v ≠ 3#2 := by simpa [Instr.wellFormed, valueClassOk] using h
    simp [Instr.selector, decodeSelector, decodeCobs, hv]
  | cobsDataLast v =>
    have hv : v ≠ 3#2 := by simpa [Instr.wellFormed, valueClassOk] using h
    simp [Instr.selector, decodeSelector, decodeCobs, hv]
  | _ => rfl

theorem decode_encode {i : Instr} (h : i.wellFormed = true) : decode (encode i) = .ok i := by
  rw [encode_eq_toWord, decode_toWord, decodeSelector_selector h]

/-- The host's table word of 16 bits holds a selector word unchanged. -/
theorem decodeTableWord_toNat (w : SelectorWord) :
    decodeTableWord 16 w.toNat = (decode w).toOption := by
  have hw : w.toNat < 2 ^ 12 := w.isLt
  have hmod : w.toNat % 2 ^ 16 = w.toNat := Nat.mod_eq_of_lt (by omega)
  rw [decodeTableWord, hmod, decodeNat, if_pos hw, BitVec.ofNat_toNat, BitVec.setWidth_eq]

theorem decodeTableWord_encode {i : Instr} (h : i.wellFormed = true) :
    decodeTableWord 16 (encode i).toNat = some i := by
  rw [decodeTableWord_toNat, decode_encode h]
  rfl

/-- Settles O1: the word keeps the fields, and the decoder reads the operation from the fields. -/
theorem decodeEncodeRoundTrip : Obligations.DecodeEncodeRoundTrip :=
  fun _ h => ⟨decode_encode h, decodeTableWord_encode h⟩

/-- Settles O6, by evaluating the decoder on the four words. -/
theorem writtenSelectorWordsDecode : Obligations.WrittenSelectorWordsDecode := by
  unfold Obligations.WrittenSelectorWordsDecode
  decide

end Sys2Proof

namespace Sys2Proof.Machine

/-! ### Which selectors select an operation (R95) -/

/-- The codes that are not reserved are those of the machine's states. -/
theorem RxState.code_ofCode {s : BitVec 3} (h : s.toNat < 6) : (RxState.ofCode s).code = s := by
  revert s; decide

theorem TxState.code_ofCode {s : BitVec 3} (h : s.toNat < 4) : (TxState.ofCode s).code = s := by
  revert s; decide

theorem CobsState.code_ofCode {s : BitVec 3} (h : s.toNat < 2) : (CobsState.ofCode s).code = s := by
  revert s; decide

theorem valueClass_valueOfClass {v : BitVec 2} (h : v ≠ 3) : valueClass (valueOfClass v) = v := by
  revert v; decide

theorem rxOperation_selector (st : RxState) (r p q a l : Bool) :
    (rxOperation st r p q a l).selector = ⟨.rx, r, st.code, p, q, a, l, 0⟩ := by
  cases st <;> grind [rxOperation, Instr.selector, RxState.code]

theorem txOperation_selector (st : TxState) (r p q l : Bool) :
    (txOperation st r p q l).selector = ⟨.tx, r, st.code, p, q, false, l, 0⟩ := by
  cases st <;> grind [txOperation, Instr.selector, TxState.code]

theorem cobsOperation_selector (st : CobsState) (p l : Bool) (b : Octet) :
    (cobsOperation st p l b).selector = ⟨.cobs, false, st.code, p, false, false, l, valueClass b⟩ := by
  cases st <;> grind [cobsOperation, Instr.selector, CobsState.code, valueClass]

theorem rsOperation_selector (p a l : Bool) :
    (rsOperation p a l).selector = ⟨.rs, false, 0, p, false, a, l, 0⟩ := by
  grind [rsOperation, Instr.selector]

/-- An operation is well formed where its fields are not reserved: R95 in the words of the operation and in those
of the selector. -/
theorem Instr.wellFormed_eq (i : Instr) : i.wellFormed = !i.selector.reserved := by
  have hrx : ∀ s : BitVec 3, Agent.stateCodeOk .rx s = !(s == 6 || s == 7) := by decide
  have htx : ∀ s : BitVec 3, Agent.stateCodeOk .tx s = !(s == 4 || s == 5 || s == 6 || s == 7) := by decide
  have hcobs : ∀ s : BitVec 3, Agent.stateCodeOk .cobs s = !(s != 0 && s != 1) := by decide
  cases i with
  | rxReset s p q a l => simp [Instr.wellFormed, Instr.selector, Selector.reserved, hrx]
  | txReset s p q l => simp [Instr.wellFormed, Instr.selector, Selector.reserved, htx]
  | cobsIdle s l v => simp [Instr.wellFormed, Instr.selector, Selector.reserved, valueClassOk, hcobs, bne]
  | cobsDataMid v => simp [Instr.wellFormed, Instr.selector, Selector.reserved, valueClassOk, bne]
  | cobsDataLast v => simp [Instr.wellFormed, Instr.selector, Selector.reserved, valueClassOk, bne]
  | _ => rfl

/-! The reserved values of R95, machine by machine, as the conditions of the decoder. -/

theorem reserved_rx_eq_false_iff {r : Bool} {s : BitVec 3} {p q a l : Bool} {v : BitVec 2} :
    (Selector.mk .rx r s p q a l v).reserved = false ↔ s.toNat < 6 ∧ v = 0 := by
  have hs : s.toNat < 6 ↔ s ≠ 6 ∧ s ≠ 7 := by revert s; decide
  rw [hs]
  simp [Selector.reserved]

theorem reserved_tx_eq_false_iff {r : Bool} {s : BitVec 3} {p q a l : Bool} {v : BitVec 2} :
    (Selector.mk .tx r s p q a l v).reserved = false ↔ s.toNat < 4 ∧ a = false ∧ v = 0 := by
  have hs : s.toNat < 4 ↔ s ≠ 4 ∧ s ≠ 5 ∧ s ≠ 6 ∧ s ≠ 7 := by revert s; decide
  rw [hs]
  simp [Selector.reserved, and_assoc]

theorem reserved_cobs_eq_false_iff {r : Bool} {s : BitVec 3} {p q a l : Bool} {v : BitVec 2} :
    (Selector.mk .cobs r s p q a l v).reserved = false ↔
      s.toNat < 2 ∧ v ≠ 3 ∧ r = false ∧ q = false ∧ a = false := by
  have hs : s.toNat < 2 ↔ s = 0 ∨ s = 1 := by revert s; decide
  rw [hs]
  simp [Selector.reserved, and_assoc, or_iff_not_imp_left]

theorem reserved_rs_eq_false_iff {r : Bool} {s : BitVec 3} {p q a l : Bool} {v : BitVec 2} :
    (Selector.mk .rs r s p q a l v).reserved = false ↔ s = 0 ∧ r = false ∧ q = false ∧ v = 0 := by
  simp [Selector.reserved, and_assoc]

/-- A selector that is not reserved selects an operation with exactly its fields. -/
theorem decodeSelector_of_not_reserved {x : Selector} (h : x.reserved = false) :
    ∃ i, decodeSelector x = .ok i ∧ i.selector = x := by
  obtain ⟨m, r, s, p, q, a, l, v⟩ := x
  cases m with
  | rx =>
    obtain ⟨hs, rfl⟩ := reserved_rx_eq_false_iff.mp h
    rw [← RxState.code_ofCode hs]
    exact ⟨_, decodeSelector_rx _ r p q a l, rxOperation_selector _ r p q a l⟩
  | tx =>
    obtain ⟨hs, rfl, rfl⟩ := reserved_tx_eq_false_iff.mp h
    rw [← TxState.code_ofCode hs]
    exact ⟨_, decodeSelector_tx _ r p q l, txOperation_selector _ r p q l⟩
  | cobs =>
    obtain ⟨hs, hv, rfl, rfl, rfl⟩ := reserved_cobs_eq_false_iff.mp h
    rw [← CobsState.code_ofCode hs, ← valueClass_valueOfClass hv]
    exact ⟨_, decodeSelector_cobs _ p l _, cobsOperation_selector _ p l _⟩
  | rs =>
    obtain ⟨rfl, rfl, rfl, rfl⟩ := reserved_rs_eq_false_iff.mp h
    exact ⟨_, decodeSelector_rs p a l, rsOperation_selector p a l⟩

/-- The decoder refuses what is reserved before it looks at a row. -/
theorem not_reserved_of_decodeSelector {x : Selector} {i : Instr} (h : decodeSelector x = .ok i) :
    x.reserved = false := by
  obtain ⟨m, r, s, p, q, a, l, v⟩ := x
  cases m with
  | rx =>
    simp only [decodeSelector, decodeRx] at h
    split at h
    · cases h
    next hv =>
      split at h
      · cases h
      next hs => exact reserved_rx_eq_false_iff.mpr ⟨not_le.mp hs, not_not.mp hv⟩
  | tx =>
    simp only [decodeSelector, decodeTx] at h
    split at h
    · cases h
    next hfixed =>
      obtain ⟨hv, ha⟩ := not_or.mp hfixed
      split at h
      · cases h
      next hs =>
        exact reserved_tx_eq_false_iff.mpr ⟨not_le.mp hs, Bool.eq_false_iff.mpr ha, not_not.mp hv⟩
  | cobs =>
    simp only [decodeSelector, decodeCobs] at h
    split at h
    · cases h
    next hfixed =>
      obtain ⟨hr, hq, ha⟩ : r = false ∧ q = false ∧ a = false := by simpa using hfixed
      split at h
      · cases h
      next hs =>
        split at h
        · cases h
        next hv => exact reserved_cobs_eq_false_iff.mpr ⟨not_le.mp hs, hv, hr, hq, ha⟩
  | rs =>
    simp only [decodeSelector, decodeRs] at h
    split at h
    · cases h
    next hfixed =>
      obtain ⟨hr, hq, hv⟩ : r = false ∧ q = false ∧ v = 0 := by simpa using hfixed
      split at h
      · cases h
      next hs => exact reserved_rs_eq_false_iff.mpr ⟨not_not.mp hs, hr, hq, hv⟩

/-- The selector of a decoded operation is the one decoded. -/
theorem selector_of_decodeSelector {x : Selector} {i : Instr} (h : decodeSelector x = .ok i) :
    i.selector = x := by
  obtain ⟨j, hj, hsel⟩ := decodeSelector_of_not_reserved (not_reserved_of_decodeSelector h)
  obtain rfl : j = i := Except.ok.inj (hj.symm.trans h)
  exact hsel

theorem wellFormed_of_decodeSelector {x : Selector} {i : Instr} (h : decodeSelector x = .ok i) :
    i.wellFormed = true := by
  rw [Instr.wellFormed_eq, selector_of_decodeSelector h, not_reserved_of_decodeSelector h]
  rfl

theorem encode_of_decode {w : SelectorWord} {i : Instr} (h : decode w = .ok i) : encode i = w := by
  rw [encode_eq_toWord, selector_of_decodeSelector h, Selector.toWord_ofWord]

/-- Settles O2: the decoder keeps all fields of a selector, and the fields are all of the word. -/
theorem decodedWordReencodes : Obligations.DecodedWordReencodes :=
  fun _ _ h => ⟨encode_of_decode h, wellFormed_of_decodeSelector h⟩

theorem reserved_iff_decodeSelector_error {x : Selector} :
    x.reserved = true ↔ ∃ e, decodeSelector x = .error e := by
  constructor
  · intro hres
    cases hx : decodeSelector x with
    | error e => exact ⟨e, rfl⟩
    | ok i => simp [not_reserved_of_decodeSelector hx] at hres
  · rintro ⟨e, he⟩
    by_contra hres
    obtain ⟨i, hi, -⟩ := decodeSelector_of_not_reserved (Bool.eq_false_iff.mpr hres)
    cases he.symm.trans hi

/-- The selector a machine computes holds the code of one of its states, a value class, and 0 where the machine
fixes a field (30_encoding.md R95). -/
theorem selector_not_reserved (m : Agent) (s : State) : (selector m s).reserved = false := by
  cases m with
  | rx =>
    have hcode : s.rx.state.code.toNat < 6 := by cases s.rx.state <;> decide
    exact reserved_rx_eq_false_iff.mpr ⟨hcode, rfl⟩
  | tx =>
    have hcode : s.tx.state.code.toNat < 4 := by cases s.tx.state <;> decide
    exact reserved_tx_eq_false_iff.mpr ⟨hcode, rfl, rfl⟩
  | cobs =>
    have hcode : s.cobs.state.code.toNat < 2 := by cases s.cobs.state <;> decide
    have hclass : valueClass s.iData ≠ 3 := by grind [valueClass]
    exact reserved_cobs_eq_false_iff.mpr ⟨hcode, hclass, rfl, rfl, rfl⟩
  | rs => exact reserved_rs_eq_false_iff.mpr ⟨rfl, rfl, rfl, rfl⟩

/-- Settles O4: what is reserved is what the decoder refuses, no machine computes it, and the rows are counted. -/
theorem reservedSelectorsAreRefused : Obligations.ReservedSelectorsAreRefused :=
  ⟨fun _ => reserved_iff_decodeSelector_error, selector_not_reserved, by decide, by decide, by decide,
    by decide, by decide⟩

theorem selector_m (m : Agent) (s : State) : (selector m s).m = m := by cases m <;> rfl

/-- Settles O5: a machine's selector is not reserved, so it decodes, to an operation with its fields. -/
theorem everyTickSelectsOneOperation : Obligations.EveryTickSelectsOneOperation := by
  intro m s
  obtain ⟨i, hi, hsel⟩ := decodeSelector_of_not_reserved (selector_not_reserved m s)
  have hword : decode (selector m s).toWord = .ok i := by rw [decode_toWord, hi]
  have hagent : i.agent = m := by rw [← Instr.selector_m, hsel, selector_m]
  exact ⟨i, fetch_of_decode_selector hword, hagent, wellFormed_of_decodeSelector hi, hsel, hword⟩

/-! ### The opcode table (R90) -/

/-- Any two rows demand different values of some bit that both their masks keep. -/
theorem opcodeTable_pairwise_disjoint :
    opcodeTable.Pairwise fun r r' => r.pattern &&& r'.mask ≠ r'.pattern &&& r.mask := by decide

/-- Rows that match one word agree on the bits that both masks keep. -/
theorem OpcodeRow.common_bits_of_matches {r r' : OpcodeRow} {w : SelectorWord} (h : r.matches w = true)
    (h' : r'.matches w = true) : r.pattern &&& r'.mask = r'.pattern &&& r.mask := by
  rw [OpcodeRow.matches, beq_iff_eq] at h h'
  rw [← h, ← h', BitVec.and_assoc, BitVec.and_assoc, BitVec.and_comm r.mask]

/-- No word, reserved or not, matches two rows. -/
theorem opcodeTable_index_unique {m n : Nat} {r r' : OpcodeRow} {w : SelectorWord}
    (hm : opcodeTable[m]? = some r) (hn : opcodeTable[n]? = some r') (h : r.matches w = true)
    (h' : r'.matches w = true) : m = n := by
  obtain ⟨hm', rfl⟩ := List.getElem?_eq_some_iff.mp hm
  obtain ⟨hn', rfl⟩ := List.getElem?_eq_some_iff.mp hn
  have hdisjoint := List.pairwise_iff_getElem.mp opcodeTable_pairwise_disjoint
  rcases lt_trichotomy m n with hlt | heq | hgt
  · exact absurd (OpcodeRow.common_bits_of_matches h h') (hdisjoint m n hm' hn' hlt)
  · exact heq
  · exact absurd (OpcodeRow.common_bits_of_matches h' h) (hdisjoint n m hn' hm' hgt)

/-- The encoding of any operation matches the operation's own row. -/
theorem row_matches_encode (i : Instr) :
    ∃ row, opcodeTable[i.rowIndex]? = some row ∧ row.matches (encode i) = true := by
  cases i with
  | rxReset s p q a l => exact Laws.RowMatch.rxReset s p q a l
  | rxIdleWait p a l => exact Laws.RowMatch.rxIdleWait p a l
  | rxIdleDetect p a l => exact Laws.RowMatch.rxIdleDetect p a l
  | rxStartWait q a l => exact Laws.RowMatch.rxStartWait q a l
  | rxStartGo q a l => exact Laws.RowMatch.rxStartGo q a l
  | rxDataWait q a l => exact Laws.RowMatch.rxDataWait q a l
  | rxDataShift q a => exact Laws.RowMatch.rxDataShift q a
  | rxDataLast q a => exact Laws.RowMatch.rxDataLast q a
  | rxStopWait q a l => exact Laws.RowMatch.rxStopWait q a l
  | rxStopOk a l => exact Laws.RowMatch.rxStopOk a l
  | rxStopFerr a l => exact Laws.RowMatch.rxStopFerr a l
  | rxFullAck p q l => exact Laws.RowMatch.rxFullAck p q l
  | rxFullOverrun p l => exact Laws.RowMatch.rxFullOverrun p l
  | rxFullHold p l => exact Laws.RowMatch.rxFullHold p l
  | rxErrorHold p q a l => exact Laws.RowMatch.rxErrorHold p q a l
  | txReset s p q l => exact Laws.RowMatch.txReset s p q l
  | txIdleHold p l => exact Laws.RowMatch.txIdleHold p l
  | txIdleLoad p l => exact Laws.RowMatch.txIdleLoad p l
  | txStartWait q l => exact Laws.RowMatch.txStartWait q l
  | txStartDrive q l => exact Laws.RowMatch.txStartDrive q l
  | txDataWait q l => exact Laws.RowMatch.txDataWait q l
  | txDataShift q => exact Laws.RowMatch.txDataShift q
  | txDataLast q => exact Laws.RowMatch.txDataLast q
  | txStopWait q l => exact Laws.RowMatch.txStopWait q l
  | txStopDrive q l => exact Laws.RowMatch.txStopDrive q l
  | cobsIdle s l v => exact Laws.RowMatch.cobsIdle s l v
  | cobsLenOne l => exact Laws.RowMatch.cobsLenOne l
  | cobsLenN l => exact Laws.RowMatch.cobsLenN l
  | cobsLenZero l => exact Laws.RowMatch.cobsLenZero l
  | cobsDataMid v => exact Laws.RowMatch.cobsDataMid v
  | cobsDataLast v => exact Laws.RowMatch.cobsDataLast v
  | rsHold l => exact Laws.RowMatch.rsHold l
  | rsWriteMid a => exact Laws.RowMatch.rsWriteMid a
  | rsWriteLast a => exact Laws.RowMatch.rsWriteLast a
  | rsAck l => exact Laws.RowMatch.rsAck l

/-- A word that decodes matches the row of what it decodes to. -/
theorem row_matches_of_decode {w : SelectorWord} {i : Instr} (h : decode w = .ok i) :
    ∃ row, opcodeTable[i.rowIndex]? = some row ∧ row.matches w = true := by
  rw [← encode_of_decode h]
  exact row_matches_encode i

/-- Settles O3: a word that decodes matches its operation's row, and no word matches two. -/
theorem opcodeTableSelectsOneRow : Obligations.OpcodeTableSelectsOneRow := by
  intro w n row hrow
  refine ⟨⟨?_, ?_⟩, fun _ hmatch m other hother hmatch' =>
    opcodeTable_index_unique hother hrow hmatch' hmatch⟩
  · rintro ⟨i, hi, rfl⟩
    obtain ⟨own, hown, hmatch⟩ := row_matches_of_decode hi
    obtain rfl : own = row := Option.some.inj (hown.symm.trans hrow)
    exact ⟨not_reserved_of_decodeSelector hi, hmatch⟩
  · rintro ⟨hres, hmatch⟩
    obtain ⟨i, hi, -⟩ := decodeSelector_of_not_reserved hres
    obtain ⟨own, hown, hmatch'⟩ := row_matches_of_decode hi
    exact ⟨i, hi, opcodeTable_index_unique hown hrow hmatch' hmatch⟩

/-! ### Placing a word (log 4) -/

theorem timerFor_eq_zero (p : Bool) (t : Nat) : (timerFor p t == 0) = p := by
  cases p with
  | true => rfl
  | false => by_cases ht : t = 0 <;> simp [timerFor, ht]

theorem bitnoFor_eq_seven (l : Bool) (n : BitVec 3) : (bitnoFor l n == 7#3) = l := by
  cases l with
  | true => rfl
  | false => by_cases hn : n = 7#3 <;> simp [bitnoFor, hn]

/-- A machine placed under a selector that is not reserved computes that selector. -/
theorem selector_placeSelector {x : Selector} (s : State) (h : x.reserved = false) :
    selector x.m (s.placeSelector x) = x := by
  obtain ⟨m, r, c, p, q, a, l, v⟩ := x
  cases m with
  | rx =>
    obtain ⟨hc, rfl⟩ := reserved_rx_eq_false_iff.mp h
    simp [selector, selectorRx, State.placeSelector, State.rxRst, State.rxStb, State.rxI, State.rxAck,
      State.rxLast, State.driven, Wiring.separate, RxState.code_ofCode hc, timerFor_eq_zero,
      bitnoFor_eq_seven]
  | tx =>
    obtain ⟨hc, rfl, rfl⟩ := reserved_tx_eq_false_iff.mp h
    simp [selector, selectorTx, State.placeSelector, State.txRst, State.txStb, State.txRdy,
      State.txLast, State.driven, TxState.code_ofCode hc, timerFor_eq_zero, bitnoFor_eq_seven]
  | cobs =>
    obtain ⟨hc, hv, rfl, rfl, rfl⟩ := reserved_cobs_eq_false_iff.mp h
    have hlast : ((1 : Int) == ((if l then 2#8 else 3#8).toNat : Int) - 1) = l := by cases l <;> rfl
    simp [selector, selectorCobs, State.placeSelector, State.iRdy, State.iData, State.cobsLast,
      State.driven, State.withInputs, Wiring.separate, CobsState.code_ofCode hc,
      valueClass_valueOfClass hv, hlast]
  | rs =>
    obtain ⟨rfl, rfl, rfl, rfl⟩ := reserved_rs_eq_false_iff.mp h
    have hlast : (s.rs.idx + 1 == if l then s.rs.idx + 1 else s.rs.idx + 2) = l := by
      cases l <;> simp
    simp [selector, selectorRs, State.placeSelector, State.iLatch, State.outReadAck, State.rsLast,
      State.driven, Wiring.separate, hlast]

theorem withFetchWord_encode (s : State) {i : Instr} (h : i.wellFormed = true) :
    s.withFetchWord 16 (encode i).toNat = s.placeSelector i.selector := by
  rw [State.withFetchWord, decodeTableWord_encode h]

/-- Settles O10: the placed machine computes the operation's own selector, which decodes to it. -/
theorem placedWordIsSelected : Obligations.PlacedWordIsSelected := by
  intro s i h
  have hres : i.selector.reserved = false := by simpa [Instr.wellFormed_eq] using h
  rw [withFetchWord_encode s h, fetch, ← Instr.selector_m, selector_placeSelector s hres,
    decodeSelector_selector h]
  rfl

/-! ### The word of the chunks (R86, R87) -/

/-- A chunk's place is worth 256 times the place below it. -/
theorem two_pow_eight_mul_succ (i : Nat) : 2 ^ (8 * (i + 1)) = 256 * 2 ^ (8 * i) := by
  rw [Nat.mul_succ, Nat.pow_add, Nat.mul_comm]

/-- The chunks fill the word they are placed in. -/
theorem wordValue_lt (l : List Octet) : wordValue l < 2 ^ (8 * l.length) := by
  induction l with
  | nil => simp [wordValue]
  | cons c cs ih =>
    have hc : c.toNat < 256 := c.isLt
    rw [List.length_cons, two_pow_eight_mul_succ, wordValue]
    omega

/-- With `K` chunks no bit of their value is cut off. -/
theorem State.outWord_toNat {s : State} (h : s.rs.chunks.length = s.params.k) :
    s.outWord.toNat = wordValue s.rs.chunks := by
  rw [State.outWord, BitVec.toNat_ofNat, Nat.mod_eq_of_lt]
  rw [← h]
  exact wordValue_lt _

/-- Digit `i` of the value in base 256 is chunk `i`. -/
theorem wordValue_digit {l : List Octet} {i : Nat} {c : Octet} (h : l[i]? = some c) :
    wordValue l / 2 ^ (8 * i) % 2 ^ 8 = c.toNat := by
  induction l generalizing i with
  | nil => simp at h
  | cons b bs ih =>
    have hb : b.toNat < 256 := b.isLt
    cases i with
    | zero =>
      obtain rfl : b = c := by simpa using h
      rw [wordValue, Nat.mul_zero, Nat.pow_zero, Nat.div_one]
      omega
    | succ i =>
      have hdrop : (b.toNat + 256 * wordValue bs) / 256 = wordValue bs := by omega
      rw [wordValue, two_pow_eight_mul_succ, ← Nat.div_div_eq_div_mul, hdrop]
      exact ih (by simpa using h)

/-- Settles O47: eight bits from bit `8i` are digit `i` of the number. -/
theorem wordPlacesChunksByIndex : Obligations.WordPlacesChunksByIndex := by
  intro s i c hlen hc
  apply BitVec.eq_of_toNat_eq
  rw [BitVec.extractLsb'_toNat, State.outWord_toNat hlen, Nat.shiftRight_eq_div_pow, wordValue_digit hc]

/-- The value, chunk by chunk, is the sum of the chunks weighted by their places. -/
theorem wordValue_eq_sum (l : List Octet) :
    wordValue l = ∑ i ∈ Finset.range l.length, ((l[i]?).getD 0).toNat * 2 ^ (8 * i) := by
  induction l with
  | nil => rfl
  | cons c cs ih =>
    rw [wordValue, ih, List.length_cons, Finset.sum_range_succ', Finset.mul_sum, Nat.add_comm]
    congr 1
    · refine Finset.sum_congr rfl fun i _ => ?_
      rw [List.getElem?_cons_succ, two_pow_eight_mul_succ, Nat.mul_left_comm]
    · simp

/-- Settles O48: no bit of the sum is cut off, and the example is evaluated. -/
theorem wordIsTheWeightedSumOfChunks : Obligations.WordIsTheWeightedSumOfChunks := by
  refine ⟨fun s hlen => ?_, by decide⟩
  rw [State.outWord_toNat hlen, wordValue_eq_sum, hlen]

/-! ### The octet as its samples (R81)

After the tick that detects a start, the receiver works in the strobe ticks only: it waits half a period for the
first and a period for each of the nine after it. -/

/-- Strobe `k` of a frame in the tick count of 41_uart_rx.md R128: 0 ends the start bit, 1 to 8 sample the data
bits, 9 checks the stop bit. -/
def strobeTick (d k : Nat) : Nat := 1 + d / 2 + k * d

theorem strobeTick_zero (d : Nat) : strobeTick d 0 = 1 + d / 2 := by
  rw [strobeTick, Nat.zero_mul, Nat.add_zero]

theorem strobeTick_succ {d : Nat} (k : Nat) (hd : 1 ≤ d) :
    strobeTick d (k + 1) = strobeTick d k + 1 + (d - 1) := by
  rw [strobeTick, strobeTick, Nat.succ_mul]
  omega

theorem State.rxRst_eq_inputsAt (s : State) : s.rxRst = (s.inputsAt 0).rxRst := by
  rw [State.rxRst, State.driven_eq_inputsAt_zero]

/-- No reset of RX in the first `n` ticks. -/
abbrev State.NoRxReset (s : State) (n : Nat) : Prop := ∀ j, j < n → (s.inputsAt j).rxRst = false

/-- The reset input stays low in the rest of a run. -/
theorem State.NoRxReset.after {s t : State} {m n : Nat} (h : s.NoRxReset n) (hrun : run m s = .next t) :
    t.NoRxReset (n - m) := by
  intro j hj
  rw [run_inputsAt hrun]
  exact h (m + j) (by omega)

theorem State.NoRxReset.rxRst {s : State} {n : Nat} (h : s.NoRxReset n) (hn : 0 < n) : s.rxRst = false := by
  rw [State.rxRst_eq_inputsAt]
  exact h 0 hn

/-- A state of RX inside a frame, in which only a strobe does more than count. -/
abbrev RxState.InFrame (st : RxState) : Prop := st = .start ∨ st = .data ∨ st = .stop

theorem Rx.next_of_not_strobe {d : Nat} {r : Rx} (line ack : Bool) (hst : r.state.InFrame)
    (ht : r.timer ≠ 0) : Rx.next d line ack false r = { r with timer := r.timer - 1 } := by
  obtain hst | hst | hst := hst <;> simp [Rx.next, hst, ht, tickDown_of_pos]

/-- Inside a frame the receiver only counts until its next strobe. -/
theorem run_rx_until_strobe {n : Nat} {s t : State} (hrun : run n s = .next t)
    (hst : s.rx.state.InFrame) (hn : n ≤ s.rx.timer) (hrst : s.NoRxReset n) :
    t.rx = { s.rx with timer := s.rx.timer - n } := by
  induction n generalizing s with
  | zero => cases hrun; rfl
  | succ n ih =>
    obtain ⟨u, hstep, hrest⟩ := run_succ_inv hrun
    have hu : u.rx = { s.rx with timer := s.rx.timer - 1 } := by
      rw [step_rx hstep, hrst.rxRst n.succ_pos]
      exact Rx.next_of_not_strobe _ _ hst (by omega)
    have hrun1 : run 1 s = .next u := by rw [run_succ_of_next 0 hstep, run_zero]
    have hst' : u.rx.state.InFrame := by rwa [hu]
    have hn' : n ≤ u.rx.timer := by rw [hu]; exact Nat.le_sub_one_of_lt hn
    rw [ih hrest hst' hn' (hrst.after hrun1), hu, Nat.sub_sub, Nat.add_comm 1]

/-- A run of `m + n` ticks passes through the state after `m`. -/
theorem run_add_inv {m n : Nat} {s t : State} (h : run (m + n) s = .next t) :
    ∃ u, run m s = .next u ∧ run n u = .next t := by
  induction m generalizing s with
  | zero => exact ⟨s, rfl, by rwa [Nat.zero_add] at h⟩
  | succ m ih =>
    rw [Nat.succ_add] at h
    obtain ⟨u, hstep, hrest⟩ := run_succ_inv h
    obtain ⟨v, hv, hn⟩ := ih hrest
    exact ⟨v, by rw [run_succ_of_next m hstep, hv], hn⟩

/-- A tick that the receiver has counted down to: the state before the wait, and the state after it. -/
theorem run_rx_strobe {m n : Nat} {s t : State} (hrun : run (m + n + 1) s = .next t)
    (hrst : s.NoRxReset (m + n + 1)) :
    ∃ u v, run m s = .next u ∧ run (m + n) s = .next v ∧ step v = .next t ∧ v.rxRst = false ∧
      (u.rx.state.InFrame → u.rx.timer = n → v.rx = { u.rx with timer := 0 }) := by
  obtain ⟨v, hv, hstep⟩ := run_succ_last hrun
  obtain ⟨u, hu, hwait⟩ := run_add_inv hv
  refine ⟨u, v, hu, hv, hstep, (hrst.after hv).rxRst (by omega), fun hst htimer => ?_⟩
  have hquiet : u.NoRxReset n := fun j hj => hrst.after hu j (by omega)
  rw [run_rx_until_strobe hwait hst htimer.ge hquiet, htimer, Nat.sub_self]

/-- The registers of RX right after strobe `m ≤ 8` of the frame that starts in `s`: `m` bits are sampled, and the
sample of strobe `i + 1` has come down to bit `8 - m + i`. -/
structure RxSampled (s : State) (m : Nat) (r : Rx) : Prop where
  timer : r.timer = s.params.dRx - 1
  state : r.state = if m < 8 then .data else .stop
  bitno : r.bitno = BitVec.ofNat 3 m
  samples : ∀ i u, i < m → run (strobeTick s.params.dRx (i + 1)) s = .next u →
    r.shreg.getLsbD (8 - m + i) = u.rxI

theorem RxSampled.inFrame {s : State} {m : Nat} {r : Rx} (h : RxSampled s m r) : r.state.InFrame := by
  rw [h.state]
  split
  · exact .inr (.inl rfl)
  · exact .inr (.inr rfl)

/-- A falling line in IDLE starts a frame with half a period to wait (41_uart_rx.md R114). -/
theorem step_rx_detect {s t : State} (hstep : step s = .next t) (hst : s.rx.state = .idle)
    (hline : s.rxI = false) (hrst : s.rxRst = false) :
    t.rx = { s.rx with state := .start, timer := s.params.dRx / 2 } := by
  rw [step_rx hstep, hrst, hline]
  simp [Rx.next, hst]

/-- The strobe in START opens the data bits (41_uart_rx.md R116). -/
theorem step_rx_startGo {s t : State} (hstep : step s = .next t) (hst : s.rx.state = .start)
    (ht : s.rx.timer = 0) (hrst : s.rxRst = false) :
    t.rx = { s.rx with state := .data, timer := s.params.dRx - 1 } := by
  rw [step_rx hstep, hrst]
  simp [Rx.next, hst, ht]

/-- A strobe in DATA takes a sample, and the eighth sample closes the data bits (41_uart_rx.md R118, R119). -/
theorem step_rx_sample {s t : State} (hstep : step s = .next t) (hst : s.rx.state = .data)
    (ht : s.rx.timer = 0) (hrst : s.rxRst = false) :
    t.rx = { state := if s.rx.bitno = 7 then .stop else .data, timer := s.params.dRx - 1,
             bitno := s.rx.bitno + 1, shreg := pushHigh s.rxI s.rx.shreg } := by
  have hwrap : (7 : BitVec 3) + 1 = 0 := rfl
  rw [step_rx hstep, hrst]
  grind [Rx.next, tickDown]

/-- The strobe in STOP looks at the line and keeps the octet (41_uart_rx.md R121, R122). -/
theorem step_rx_stop {s t : State} (hstep : step s = .next t) (hst : s.rx.state = .stop)
    (ht : s.rx.timer = 0) (hrst : s.rxRst = false) :
    t.rx.state = (if s.rxI = true then .full else .error) ∧ t.rx.shreg = s.rx.shreg := by
  rw [step_rx hstep, hrst]
  simp [Rx.next, hst, ht]

/-- Strobe 0, half a period after the falling line, opens the data bits with none sampled. -/
theorem rxSampled_zero {s t : State} (hst : s.rx.state = .idle) (hbit : s.rx.bitno = 0)
    (hline : s.rxI = false) (hrst : s.NoRxReset (strobeTick s.params.dRx 0 + 1))
    (hrun : run (strobeTick s.params.dRx 0 + 1) s = .next t) : RxSampled s 0 t.rx := by
  rw [strobeTick_zero] at hrun hrst
  obtain ⟨u, v, hu, hv, hstep, hvrst, hwait⟩ := run_rx_strobe hrun hrst
  obtain ⟨u, hdetect, ⟨⟩⟩ := run_succ_inv hu
  have hurx := step_rx_detect hdetect hst hline (hrst.rxRst (by omega))
  have hvrx := hwait (by rw [hurx]; exact .inl rfl) (by rw [hurx])
  have ht := step_rx_startGo hstep (by rw [hvrx, hurx]) (by rw [hvrx]) hvrst
  rw [ht, hvrx, hurx, run_params hv]
  exact ⟨rfl, rfl, hbit, fun i w hi _ => absurd hi (Nat.not_lt_zero i)⟩

/-- A strobe in DATA, one period after the one before, adds one sample above those it shifts down. -/
theorem rxSampled_succ {s t : State} {m : Nat} (hm : m < 8) (hd : 1 ≤ s.params.dRx)
    (hrst : s.NoRxReset (strobeTick s.params.dRx (m + 1) + 1))
    (ih : ∀ u, run (strobeTick s.params.dRx m + 1) s = .next u → RxSampled s m u.rx)
    (hrun : run (strobeTick s.params.dRx (m + 1) + 1) s = .next t) : RxSampled s (m + 1) t.rx := by
  have htick := strobeTick_succ m hd
  rw [htick] at hrun hrst
  obtain ⟨u, v, hu, hv, hstep, hvrst, hwait⟩ := run_rx_strobe hrun hrst
  have hsampled := ih u hu
  have hvrx := hwait hsampled.inFrame hsampled.timer
  have hstate : v.rx.state = .data := by simp [hvrx, hsampled.state, hm]
  have hbit : v.rx.bitno = BitVec.ofNat 3 m := by rw [hvrx, hsampled.bitno]
  have hseven : v.rx.bitno = 7 ↔ ¬m + 1 < 8 := by rw [hbit]; bv_omega
  rw [step_rx_sample hstep hstate (by rw [hvrx]) hvrst]
  refine ⟨by rw [run_params hv], by simp only [hseven, ite_not], by rw [hbit, BitVec.ofNat_add]; rfl,
    fun i w hi hw => ?_⟩
  rcases Nat.lt_succ_iff_lt_or_eq.mp hi with hold | rfl
  · have hlow : 8 - (m + 1) + i < 7 := by omega
    have hplace : 8 - (m + 1) + i + 1 = 8 - m + i := by omega
    rw [pushHigh_low _ _ hlow, hplace, hvrx]
    exact hsampled.samples i w hold hw
  · have htop : 8 - (i + 1) + i = 7 := by omega
    rw [htick, hv] at hw
    obtain rfl : v = w := Host.Outcome.next.inj hw
    rw [htop, pushHigh_bit7]

/-- After strobe `m`, whatever the line does: `m` samples. -/
theorem run_rxSampled {s : State} (hd : 1 ≤ s.params.dRx) (hst : s.rx.state = .idle)
    (hbit : s.rx.bitno = 0) (hline : s.rxI = false) {m : Nat} (hm : m ≤ 8)
    (hrst : s.NoRxReset (strobeTick s.params.dRx m + 1)) {t : State}
    (hrun : run (strobeTick s.params.dRx m + 1) s = .next t) : RxSampled s m t.rx := by
  induction m generalizing t with
  | zero => exact rxSampled_zero hst hbit hline hrst hrun
  | succ m ih =>
    have hle : strobeTick s.params.dRx m ≤ strobeTick s.params.dRx (m + 1) := by
      rw [strobeTick_succ m hd, Nat.add_assoc]
      exact Nat.le_add_right _ _
    exact rxSampled_succ hm hd hrst
      (fun u hu => ih (by omega) (fun j hj => hrst j (by omega)) hu) hrun

/-- After strobe 9: the level in its tick decides the state, and the octet is the eight samples. -/
theorem run_rx_octet {s t : State} (hd : 1 ≤ s.params.dRx) (hst : s.rx.state = .idle)
    (hbit : s.rx.bitno = 0) (hline : s.rxI = false)
    (hrst : s.NoRxReset (strobeTick s.params.dRx 9 + 1))
    (hrun : run (strobeTick s.params.dRx 9 + 1) s = .next t) :
    ∃ v, run (strobeTick s.params.dRx 9) s = .next v ∧
      t.rx.state = (if v.rxI = true then .full else .error) ∧
      ∀ i u, i < 8 → run (strobeTick s.params.dRx (i + 1)) s = .next u → t.rx.shreg.getLsbD i = u.rxI := by
  rw [strobeTick_succ 8 hd] at hrst hrun ⊢
  obtain ⟨u, v, hu, hv, hstep, hvrst, hwait⟩ := run_rx_strobe hrun hrst
  have hsampled : RxSampled s 8 u.rx :=
    run_rxSampled hd hst hbit hline le_rfl (fun j hj => hrst j (by omega)) hu
  have hvrx := hwait hsampled.inFrame hsampled.timer
  have hstop : v.rx.state = .stop := by simp [hvrx, hsampled.state]
  obtain ⟨htstate, htshreg⟩ := step_rx_stop hstep hstop (by rw [hvrx]) hvrst
  refine ⟨v, hv, htstate, fun i w hi hw => ?_⟩
  rw [htshreg, hvrx]
  simpa using hsampled.samples i w hi hw

/-- Settles O51, by induction on the strobes: eight samples shift the first down to bit 0, and strobe 9 looks at
the line and keeps the octet. -/
theorem rxOctetIsItsSamples : Obligations.RxOctetIsItsSamples := by
  intro s t hd hst hbit hline d h hrst hrun
  have hend : 2 + h + 9 * d = strobeTick d 9 + 1 := by
    rw [strobeTick]
    omega
  rw [hend] at hrst hrun
  obtain ⟨v, hv, hstate, hsamples⟩ := run_rx_octet hd hst hbit hline hrst hrun
  refine ⟨hsamples, fun u hu => ?_⟩
  obtain rfl : v = u := Host.Outcome.next.inj (hv.symm.trans hu)
  exact hstate

end Sys2Proof.Machine
end

section
/-! PROOFS. The statements of 40_divider.md: the bit-timing counters and their strobes, the rounding of the divisor
and the checks of `div_config`. -/

namespace Sys2Proof.Machine

/-! ### The count down (R103) -/

/-- An operation of RX that neither clears nor loads the timer lets it count. -/
theorem exec_rx_timer {i : Instr} {s t : State} (h : exec i s = .next t) (hrx : i.agent = .rx)
    (hreset : ∀ c p q a l, i ≠ .rxReset c p q a l) (hdetect : ∀ p a l, i ≠ .rxIdleDetect p a l) :
    t.rx.timer = tickDown s.rx.timer s.params.dRx := by
  cases i with
  | rxReset c p q a l => exact absurd rfl (hreset c p q a l)
  | rxIdleDetect p a l => exact absurd rfl (hdetect p a l)
  | _ => cases hrx <;> (cases h; rfl)

/-- An operation of TX that neither clears nor loads the timer lets it count. -/
theorem exec_tx_timer {i : Instr} {s t : State} (h : exec i s = .next t) (htx : i.agent = .tx)
    (hreset : ∀ c p q l, i ≠ .txReset c p q l) (hload : ∀ p l, i ≠ .txIdleLoad p l) :
    t.tx.timer = tickDown s.tx.timer s.params.dTx := by
  cases i with
  | txReset c p q l => exact absurd rfl (hreset c p q l)
  | txIdleLoad p l => exact absurd rfl (hload p l)
  | _ => cases htx <;> (cases h; rfl)

/-- Settles O41: the operations that go on with the timer running, and the two cases of the count. -/
theorem timersCountDownInEveryOtherOperation : Obligations.TimersCountDownInEveryOtherOperation := by
  refine ⟨fun i s t h => ⟨exec_rx_timer h, exec_tx_timer h⟩, fun d t ht => ⟨tickDown_lt ht, ?_, ?_⟩⟩
  · rintro rfl
    exact tickDown_zero d
  · exact tickDown_of_pos

/-! ### The strobes (R105) -/

/-- Modulo `D`, a counter in its range goes down by 1 in every tick, the wrap from 0 to `D - 1` included. -/
theorem tickDown_add_one_modEq {t d : Nat} (h : t < d) : tickDown t d + 1 ≡ t [MOD d] := by
  cases t with
  | zero =>
    rw [tickDown_zero, Nat.sub_add_cancel h]
    exact Nat.modEq_zero_iff_dvd.mpr dvd_rfl
  | succ t => rw [tickDown_succ]

/-- After `n` ticks the counter is in its range and has gone down by `n` modulo `D`. -/
theorem tickDown_iterate {v d : Nat} (h : v < d) (n : Nat) :
    (tickDown · d)^[n] v < d ∧ (tickDown · d)^[n] v + n ≡ v [MOD d] := by
  induction n with
  | zero => exact ⟨h, rfl⟩
  | succ n ih =>
    obtain ⟨hlt, hmod⟩ := ih
    rw [Function.iterate_succ_apply']
    refine ⟨tickDown_lt hlt, ?_⟩
    rw [Nat.add_comm n 1, ← Nat.add_assoc]
    exact ((tickDown_add_one_modEq hlt).add_right n).trans hmod

/-- Settles O42: the counter is 0 when `n` and `v` agree modulo `D`, and `v` is the least such `n`. -/
theorem strobeComesEveryDTicks : Obligations.StrobeComesEveryDTicks := by
  intro d v n hv
  obtain ⟨hlt, hmod⟩ := tickDown_iterate hv n
  constructor
  · intro hzero
    rw [hzero, Nat.zero_add] at hmod
    have hrem : n % d = v := Nat.mod_eq_of_modEq hmod hv
    exact ⟨n / d, by rw [← hrem, Nat.mod_add_div']⟩
  · rintro ⟨j, rfl⟩
    have hperiod : v + j * d ≡ v [MOD d] := by simp [Nat.ModEq]
    have hback : (tickDown · d)^[v + j * d] v ≡ 0 [MOD d] :=
      Nat.ModEq.add_right_cancel hperiod (by rwa [Nat.zero_add])
    exact hback.eq_of_lt_of_lt hlt (Nat.zero_lt_of_lt hv)

/-! ### Rounding (R102) -/

/-- Whatever the tie rule, the rounding goes down only where the fraction is at most one half, and up only where it
is at least one half. -/
theorem roundNearest_cases (tie : TieRule) (q : ℚ) :
    roundNearest tie q = q.floor ∧ q - q.floor ≤ 1 / 2 ∨
      roundNearest tie q = q.floor + 1 ∧ 1 / 2 ≤ q - q.floor := by
  rcases lt_trichotomy (q - q.floor) (1 / 2) with hlt | heq | hgt
  · exact .inl ⟨if_pos hlt, hlt.le⟩
  · cases tie with
    | toEven => by_cases heven : q.floor % 2 = 0 <;> simp [roundNearest, heq, heven]
    | up => simp [roundNearest, heq]
    | down => simp [roundNearest, heq]
  · exact .inr ⟨(if_neg hgt.not_gt).trans (if_pos hgt), hgt.le⟩

theorem abs_sub_roundNearest_le (tie : TieRule) (q : ℚ) : |q - roundNearest tie q| ≤ 1 / 2 := by
  have hfloor : (q.floor : ℚ) ≤ q := q.floor_le
  have hceil : q < q.floor + 1 := mod_cast q.lt_floor_add_one
  rw [abs_le]
  obtain ⟨hround, hhalf⟩ | ⟨hround, hhalf⟩ := roundNearest_cases tie q
  · rw [hround]
    constructor <;> linarith
  · rw [hround, Int.cast_add, Int.cast_one]
    constructor <;> linarith

/-- An exact half goes to the even one of its two neighbours (decision D24). -/
theorem roundNearest_toEven_half (n : Int) :
    roundNearest .toEven ((n : ℚ) + 1 / 2) = if n % 2 = 0 then n else n + 1 := by
  have hfloor : ((n : ℚ) + 1 / 2).floor = n := by
    change ⌊(n : ℚ) + 1 / 2⌋ = n
    rw [Int.floor_eq_iff]
    constructor <;> linarith
  simp only [roundNearest, hfloor, add_sub_cancel_left, lt_irrefl, if_false]

/-! ### The checks of `div_config` (R100, R101) -/

theorem checkDivisor_of_lt_one {d : Int} (base target : ℚ) (ceiling : Option ℚ) (h : d < 1) :
    checkDivisor base target ceiling d = .error .targetRateTooHigh := if_pos h

theorem checkDivisor_none {d : Int} (base target : ℚ) (h : 1 ≤ d) :
    checkDivisor base target none d = .ok d.toNat := if_neg h.not_gt

theorem checkDivisor_some {d : Int} (base target m : ℚ) (h : 1 ≤ d) :
    checkDivisor base target (some m) d =
      if m < |errorPpm base target d| then .error .frequencyError else .ok d.toNat := if_neg h.not_gt

theorem checkDivisor_eq_ok_iff {base target : ℚ} {ceiling : Option ℚ} {d : Int} {n : Nat} :
    checkDivisor base target ceiling d = .ok n ↔
      (n : Int) = d ∧ 1 ≤ d ∧ ∀ m, ceiling = some m → |errorPpm base target d| ≤ m := by
  rcases lt_or_ge d 1 with hd | hd
  · simp [checkDivisor_of_lt_one base target ceiling hd, hd.not_ge]
  · have hnat : d.toNat = n ↔ (n : Int) = d := by omega
    cases ceiling with
    | none => simp [checkDivisor_none base target hd, hd, hnat]
    | some m =>
      by_cases hm : m < |errorPpm base target d|
      · simp [checkDivisor_some base target m hd, hm]
      · simp [checkDivisor_some base target m hd, hm, hd, hnat, not_lt.mp hm]

theorem checkDivisor_eq_targetRateTooHigh_iff {base target : ℚ} {ceiling : Option ℚ} {d : Int} :
    checkDivisor base target ceiling d = .error .targetRateTooHigh ↔ d < 1 := by
  rcases lt_or_ge d 1 with hd | hd
  · simp [checkDivisor_of_lt_one base target ceiling hd, hd]
  · cases ceiling with
    | none => simp [checkDivisor_none base target hd, hd]
    | some m => by_cases hm : m < |errorPpm base target d| <;>
        simp [checkDivisor_some base target m hd, hm, hd]

theorem checkDivisor_eq_frequencyError_iff {base target : ℚ} {ceiling : Option ℚ} {d : Int} :
    checkDivisor base target ceiling d = .error .frequencyError ↔
      1 ≤ d ∧ ∃ m, ceiling = some m ∧ m < |errorPpm base target d| := by
  rcases lt_or_ge d 1 with hd | hd
  · simp [checkDivisor_of_lt_one base target ceiling hd, hd.not_ge]
  · cases ceiling with
    | none => simp [checkDivisor_none base target hd]
    | some m => by_cases hm : m < |errorPpm base target d| <;>
        simp [checkDivisor_some base target m hd, hm, hd]

/-- Settles O43: the bound of the rounding, and the three outcomes of the checks on the rounded quotient. -/
theorem divConfigSucceedsExactlyWithinTolerance : Obligations.DivConfigSucceedsExactlyWithinTolerance :=
  fun tie base target _ => ⟨abs_sub_roundNearest_le tie (base / target), fun _ => checkDivisor_eq_ok_iff,
    checkDivisor_eq_targetRateTooHigh_iff, checkDivisor_eq_frequencyError_iff⟩

/-- `div_config` without a ceiling, where the quotient is an exact half. -/
theorem divConfig_of_half {base target : ℚ} {n : Int} (h : base / target = n + 1 / 2) :
    divConfig base target none = checkDivisor base target none (if n % 2 = 0 then n else n + 1) := by
  rw [divConfig, divConfigWith, h, roundNearest_toEven_half]

/-- Settles O44: the examples are the halves `2 + 1/2`, `3 + 1/2` and `0 + 1/2`. -/
theorem divConfigRoundsHalvesToEven : Obligations.DivConfigRoundsHalvesToEven := by
  refine ⟨?_, ?_, ?_, roundNearest_toEven_half⟩
  · rw [divConfig_of_half (n := 2) (by norm_num)]
    exact checkDivisor_none 5 2 (by decide)
  · rw [divConfig_of_half (n := 3) (by norm_num)]
    exact checkDivisor_none 7 2 (by decide)
  · rw [divConfig_of_half (n := 0) (by norm_num)]
    exact checkDivisor_of_lt_one 1 2 none (by decide)

end Sys2Proof.Machine
end

section
/-! PROOFS. The statements of 41_uart_rx.md: when RX performs each operation and what it does, the ticks of a
received frame, and the octet sent received. -/

namespace Sys2Proof.Machine

/-! ### The operations of RX, one by one (R112 to R126) -/

/-- The transition table of RX: each operation with the 'Selected when' of its rule (41_uart_rx.md R112 to R126). -/
inductive RxSelects (s : State) : Instr → Prop where
  | reset (hrst : s.rxRst = true) :
      RxSelects s (.rxReset s.rx.state.code s.rxStb s.rxI s.rxAck s.rxLast)
  | idleWait (hrst : s.rxRst = false) (hst : s.rx.state = .idle) (hline : s.rxI = true) :
      RxSelects s (.rxIdleWait s.rxStb s.rxAck s.rxLast)
  | idleDetect (hrst : s.rxRst = false) (hst : s.rx.state = .idle) (hline : s.rxI = false) :
      RxSelects s (.rxIdleDetect s.rxStb s.rxAck s.rxLast)
  | startWait (hrst : s.rxRst = false) (hst : s.rx.state = .start) (ht : s.rx.timer ≠ 0) :
      RxSelects s (.rxStartWait s.rxI s.rxAck s.rxLast)
  | startGo (hrst : s.rxRst = false) (hst : s.rx.state = .start) (ht : s.rx.timer = 0) :
      RxSelects s (.rxStartGo s.rxI s.rxAck s.rxLast)
  | dataWait (hrst : s.rxRst = false) (hst : s.rx.state = .data) (ht : s.rx.timer ≠ 0) :
      RxSelects s (.rxDataWait s.rxI s.rxAck s.rxLast)
  | dataShift (hrst : s.rxRst = false) (hst : s.rx.state = .data) (ht : s.rx.timer = 0)
      (hbit : s.rx.bitno ≠ 7) : RxSelects s (.rxDataShift s.rxI s.rxAck)
  | dataLast (hrst : s.rxRst = false) (hst : s.rx.state = .data) (ht : s.rx.timer = 0)
      (hbit : s.rx.bitno = 7) : RxSelects s (.rxDataLast s.rxI s.rxAck)
  | stopWait (hrst : s.rxRst = false) (hst : s.rx.state = .stop) (ht : s.rx.timer ≠ 0) :
      RxSelects s (.rxStopWait s.rxI s.rxAck s.rxLast)
  | stopOk (hrst : s.rxRst = false) (hst : s.rx.state = .stop) (ht : s.rx.timer = 0)
      (hline : s.rxI = true) : RxSelects s (.rxStopOk s.rxAck s.rxLast)
  | stopFerr (hrst : s.rxRst = false) (hst : s.rx.state = .stop) (ht : s.rx.timer = 0)
      (hline : s.rxI = false) : RxSelects s (.rxStopFerr s.rxAck s.rxLast)
  | fullAck (hrst : s.rxRst = false) (hst : s.rx.state = .full) (hack : s.rxAck = true) :
      RxSelects s (.rxFullAck s.rxStb s.rxI s.rxLast)
  | fullOverrun (hrst : s.rxRst = false) (hst : s.rx.state = .full) (hack : s.rxAck = false)
      (hline : s.rxI = false) : RxSelects s (.rxFullOverrun s.rxStb s.rxLast)
  | fullHold (hrst : s.rxRst = false) (hst : s.rx.state = .full) (hack : s.rxAck = false)
      (hline : s.rxI = true) : RxSelects s (.rxFullHold s.rxStb s.rxLast)
  | errorHold (hrst : s.rxRst = false) (hst : s.rx.state = .error) :
      RxSelects s (.rxErrorHold s.rxStb s.rxI s.rxAck s.rxLast)

/-- What the table lists is what the selector decodes to. -/
theorem RxSelects.fetch {s : State} {i : Instr} (h : RxSelects s i) : fetch .rx s = some i := by
  rw [fetch_rx]
  cases h with
  | dataShift hrst hst ht hbit => grind [rxOperation, State.rxStb, State.rxLast]
  | _ => simp [rxOperation, State.rxStb, State.rxLast, *]

/-- The table has a row for every state: it splits on the reset, the state and what the state's rows read. -/
theorem exists_rxSelects (s : State) : ∃ i, RxSelects s i := by
  cases hrst : s.rxRst with
  | true => exact ⟨_, .reset hrst⟩
  | false =>
    cases hst : s.rx.state with
    | idle =>
      cases hline : s.rxI with
      | true => exact ⟨_, .idleWait hrst hst hline⟩
      | false => exact ⟨_, .idleDetect hrst hst hline⟩
    | start =>
      by_cases ht : s.rx.timer = 0
      · exact ⟨_, .startGo hrst hst ht⟩
      · exact ⟨_, .startWait hrst hst ht⟩
    | data =>
      by_cases ht : s.rx.timer = 0
      · by_cases hbit : s.rx.bitno = 7
        · exact ⟨_, .dataLast hrst hst ht hbit⟩
        · exact ⟨_, .dataShift hrst hst ht hbit⟩
      · exact ⟨_, .dataWait hrst hst ht⟩
    | stop =>
      by_cases ht : s.rx.timer = 0
      · cases hline : s.rxI with
        | true => exact ⟨_, .stopOk hrst hst ht hline⟩
        | false => exact ⟨_, .stopFerr hrst hst ht hline⟩
      · exact ⟨_, .stopWait hrst hst ht⟩
    | full =>
      cases hack : s.rxAck with
      | true => exact ⟨_, .fullAck hrst hst hack⟩
      | false =>
        cases hline : s.rxI with
        | true => exact ⟨_, .fullHold hrst hst hack hline⟩
        | false => exact ⟨_, .fullOverrun hrst hst hack hline⟩
    | error => exact ⟨_, .errorHold hrst hst⟩

/-- RX performs exactly the operation that its table lists. -/
theorem fetch_rx_eq_some_iff {s : State} {i : Instr} : fetch .rx s = some i ↔ RxSelects s i := by
  refine ⟨fun h => ?_, RxSelects.fetch⟩
  obtain ⟨j, hj⟩ := exists_rxSelects s
  rwa [← Option.some.inj (hj.fetch.symm.trans h)]

/-- Settles O12: the reset row reads the reset level only. -/
theorem rxResetReturnsToIdle : Obligations.RxResetReturnsToIdle := by
  intro s
  simp only [fetch_rx_eq_some_iff]
  exact ⟨⟨fun ⟨_, _, _, _, _, .reset hrst⟩ => hrst, fun hrst => ⟨_, _, _, _, _, .reset hrst⟩⟩,
    fun _ _ _ _ _ => ⟨_, rfl, rfl, rfl, rfl⟩⟩

/-- Settles O13: the two rows of IDLE, and the registers that each writes. -/
theorem rxIdleWatchesTheLine : Obligations.RxIdleWatchesTheLine := by
  intro s
  simp only [fetch_rx_eq_some_iff]
  refine ⟨⟨?_, ?_⟩, fun _ _ _ => ⟨_, rfl, rfl, rfl, rfl⟩, ⟨?_, ?_⟩, fun _ _ _ => ⟨_, rfl, rfl, rfl, rfl⟩⟩
  · exact fun ⟨_, _, _, .idleWait hrst hst hline⟩ => ⟨hrst, hst, hline⟩
  · exact fun ⟨hrst, hst, hline⟩ => ⟨_, _, _, .idleWait hrst hst hline⟩
  · exact fun ⟨_, _, _, .idleDetect hrst hst hline⟩ => ⟨hrst, hst, hline⟩
  · exact fun ⟨hrst, hst, hline⟩ => ⟨_, _, _, .idleDetect hrst hst hline⟩

/-- Settles O14: the two rows of START, neither of which reads the line. -/
theorem rxStartWaitsOneStrobe : Obligations.RxStartWaitsOneStrobe := by
  intro s
  simp only [fetch_rx_eq_some_iff]
  refine ⟨⟨?_, ?_⟩, fun _ _ _ => ⟨_, rfl, rfl, rfl, rfl⟩, ⟨?_, ?_⟩, fun _ _ _ => ⟨_, rfl, rfl, rfl, rfl⟩⟩
  · exact fun ⟨_, _, _, .startWait hrst hst ht⟩ => ⟨hrst, hst, ht⟩
  · exact fun ⟨hrst, hst, ht⟩ => ⟨_, _, _, .startWait hrst hst ht⟩
  · exact fun ⟨_, _, _, .startGo hrst hst ht⟩ => ⟨hrst, hst, ht⟩
  · exact fun ⟨hrst, hst, ht⟩ => ⟨_, _, _, .startGo hrst hst ht⟩

/-- The shift toward bit 0 as a number: the old bits 7 to 1 halved, and the entering bit at 128. -/
theorem pushHigh_eq_ofNat (b : Bool) (v : Octet) :
    pushHigh b v = BitVec.ofNat 8 (v.toNat / 2 + 128 * b.toNat) := by
  have hv : v.toNat < 256 := v.isLt
  have hb : b.toNat ≤ 1 := b.toNat_le
  apply BitVec.eq_of_toNat_eq
  rw [pushHigh, BitVec.toNat_cons', BitVec.extractLsb'_toNat, BitVec.toNat_ofNat, Nat.shiftLeft_eq,
    Nat.shiftRight_eq_div_pow]
  omega

/-- A strobe in DATA shifts the sample in and counts it (41_uart_rx.md R118). -/
theorem exec_rxDataShift (q a : Bool) (s : State) :
    exec (.rxDataShift q a) s = .next { s with rx :=
      { state := .data, timer := tickDown s.rx.timer s.params.dRx, bitno := s.rx.bitno + 1
        shreg := BitVec.ofNat 8 (s.rx.shreg.toNat / 2 + 128 * s.rxI.toNat) } } := by
  rw [← pushHigh_eq_ofNat]
  rfl

/-- The eighth sample is shifted in and the bit counter cleared (41_uart_rx.md R119). -/
theorem exec_rxDataLast (q a : Bool) (s : State) :
    exec (.rxDataLast q a) s = .next { s with rx :=
      { state := .stop, timer := tickDown s.rx.timer s.params.dRx, bitno := 0
        shreg := BitVec.ofNat 8 (s.rx.shreg.toNat / 2 + 128 * s.rxI.toNat) } } := by
  rw [← pushHigh_eq_ofNat]
  rfl

/-- Settles O15: the three rows of DATA, with the shift as a number. -/
theorem rxDataShiftsTheSampleIn : Obligations.RxDataShiftsTheSampleIn := by
  intro s
  simp only [fetch_rx_eq_some_iff]
  refine ⟨⟨?_, ?_⟩, fun _ _ _ => ⟨_, rfl, rfl, rfl, rfl⟩,
    ⟨?_, ?_⟩, fun q a => ⟨_, exec_rxDataShift q a s, rfl, rfl, rfl⟩,
    ⟨?_, ?_⟩, fun q a => ⟨_, exec_rxDataLast q a s, rfl, rfl, rfl⟩⟩
  · exact fun ⟨_, _, _, .dataWait hrst hst ht⟩ => ⟨hrst, hst, ht⟩
  · exact fun ⟨hrst, hst, ht⟩ => ⟨_, _, _, .dataWait hrst hst ht⟩
  · exact fun ⟨_, _, .dataShift hrst hst ht hbit⟩ => ⟨hrst, hst, ht, hbit⟩
  · exact fun ⟨hrst, hst, ht, hbit⟩ => ⟨_, _, .dataShift hrst hst ht hbit⟩
  · exact fun ⟨_, _, .dataLast hrst hst ht hbit⟩ => ⟨hrst, hst, ht, hbit⟩
  · exact fun ⟨hrst, hst, ht, hbit⟩ => ⟨_, _, .dataLast hrst hst ht hbit⟩

/-- Settles O16: the three rows of STOP, two of which are told apart by the line. -/
theorem rxStopChecksTheLine : Obligations.RxStopChecksTheLine := by
  intro s
  simp only [fetch_rx_eq_some_iff]
  refine ⟨⟨?_, ?_⟩, fun _ _ _ => ⟨_, rfl, rfl, rfl, rfl⟩, ⟨?_, ?_⟩, fun _ _ => ⟨_, rfl, rfl, rfl, rfl⟩,
    ⟨?_, ?_⟩, fun _ _ => ⟨_, rfl, rfl, rfl, rfl⟩⟩
  · exact fun ⟨_, _, _, .stopWait hrst hst ht⟩ => ⟨hrst, hst, ht⟩
  · exact fun ⟨hrst, hst, ht⟩ => ⟨_, _, _, .stopWait hrst hst ht⟩
  · exact fun ⟨_, _, .stopOk hrst hst ht hline⟩ => ⟨hrst, hst, ht, hline⟩
  · exact fun ⟨hrst, hst, ht, hline⟩ => ⟨_, _, .stopOk hrst hst ht hline⟩
  · exact fun ⟨_, _, .stopFerr hrst hst ht hline⟩ => ⟨hrst, hst, ht, hline⟩
  · exact fun ⟨hrst, hst, ht, hline⟩ => ⟨_, _, .stopFerr hrst hst ht hline⟩

/-- Settles O17: the three rows of FULL, where the acknowledge goes before the line. -/
theorem rxFullAcknowledgesOverrunsOrHolds : Obligations.RxFullAcknowledgesOverrunsOrHolds := by
  intro s
  simp only [fetch_rx_eq_some_iff]
  refine ⟨⟨?_, ?_⟩, fun _ _ _ => ⟨_, rfl, rfl, rfl, rfl⟩, ⟨?_, ?_⟩, fun _ _ => ⟨_, rfl, rfl, rfl, rfl⟩,
    ⟨?_, ?_⟩, fun _ _ => ⟨_, rfl, rfl, rfl, rfl⟩⟩
  · exact fun ⟨_, _, _, .fullAck hrst hst hack⟩ => ⟨hrst, hst, hack⟩
  · exact fun ⟨hrst, hst, hack⟩ => ⟨_, _, _, .fullAck hrst hst hack⟩
  · exact fun ⟨_, _, .fullOverrun hrst hst hack hline⟩ => ⟨hrst, hst, hack, hline⟩
  · exact fun ⟨hrst, hst, hack, hline⟩ => ⟨_, _, .fullOverrun hrst hst hack hline⟩
  · exact fun ⟨_, _, .fullHold hrst hst hack hline⟩ => ⟨hrst, hst, hack, hline⟩
  · exact fun ⟨hrst, hst, hack, hline⟩ => ⟨_, _, .fullHold hrst hst hack hline⟩

/-- Settles O18: the row of ERROR reads neither the line nor the acknowledge. -/
theorem rxErrorHolds : Obligations.RxErrorHolds := by
  intro s
  simp only [fetch_rx_eq_some_iff]
  exact ⟨⟨fun ⟨_, _, _, _, .errorHold hrst hst⟩ => ⟨hrst, hst⟩,
    fun ⟨hrst, hst⟩ => ⟨_, _, _, _, .errorHold hrst hst⟩⟩,
    fun _ _ _ _ => ⟨_, rfl, rfl, rfl, rfl⟩⟩

/-! ### The ticks of a frame (R128)

Each strobe leaves the receiver in a known state (`RxSampled`), from which it only counts down to the next. -/

/-- RX is idle and sees the falling line: this tick starts a frame (41_uart_rx.md R128). -/
structure State.StartsFrame (s : State) : Prop where
  divisor : 1 ≤ s.params.dRx
  idle : s.rx.state = .idle
  bitno : s.rx.bitno = 0
  line : s.rxI = false

theorem State.NoRxReset.mono {s : State} {m n : Nat} (h : s.NoRxReset n) (hle : m ≤ n) : s.NoRxReset m :=
  fun j hj => h j (hj.trans_le hle)

theorem strobeTick_le {d j k : Nat} (h : j ≤ k) : strobeTick d j ≤ strobeTick d k :=
  Nat.add_le_add_left (Nat.mul_le_mul_right d h) _

/-- The half period after the falling line is spent in START (41_uart_rx.md R114, R115). -/
theorem run_rx_start {s t : State} {n : Nat} (hs : s.StartsFrame) (hn : n ≤ s.params.dRx / 2)
    (hrst : s.NoRxReset (n + 1)) (hrun : run (n + 1) s = .next t) :
    t.rx = { s.rx with state := .start, timer := s.params.dRx / 2 - n } := by
  obtain ⟨u, hstep, hrest⟩ := run_succ_inv hrun
  have hu := step_rx_detect hstep hs.idle hs.line (hrst.rxRst n.succ_pos)
  have hrun1 : run 1 s = .next u := by rw [run_succ_of_next 0 hstep, run_zero]
  have hinFrame : u.rx.state.InFrame := by rw [hu]; exact .inl rfl
  rw [run_rx_until_strobe hrest hinFrame (by rwa [hu]) (hrst.after hrun1), hu]

/-- The ticks after strobe `m`, up to the next strobe: nothing but the timer moves (41_uart_rx.md R117, R120). -/
theorem run_rx_after_strobe {s t : State} {m j : Nat} (hs : s.StartsFrame) (hm : m ≤ 8)
    (hj : j ≤ s.params.dRx - 1) (hrst : s.NoRxReset (strobeTick s.params.dRx m + 1 + j))
    (hrun : run (strobeTick s.params.dRx m + 1 + j) s = .next t) :
    ∃ r, RxSampled s m r ∧ t.rx = { r with timer := s.params.dRx - 1 - j } := by
  obtain ⟨u, hu, hwait⟩ := run_add_inv hrun
  have hsampled : RxSampled s m u.rx :=
    run_rxSampled hs.divisor hs.idle hs.bitno hs.line hm (hrst.mono (Nat.le_add_right _ _)) hu
  have hquiet : u.NoRxReset j := (hrst.after hu).mono (by omega)
  refine ⟨u.rx, hsampled, ?_⟩
  rw [run_rx_until_strobe hwait hsampled.inFrame (by rwa [hsampled.timer]) hquiet, hsampled.timer]

/-- Strobe `m + 1` finds `m` bits sampled: in DATA with `m` as the bit counter, or in STOP. -/
theorem run_rx_at_strobe {s t : State} {m : Nat} (hs : s.StartsFrame) (hm : m ≤ 8)
    (hrst : s.NoRxReset (strobeTick s.params.dRx (m + 1)))
    (hrun : run (strobeTick s.params.dRx (m + 1)) s = .next t) :
    t.rx.timer = 0 ∧ t.rx.state = (if m < 8 then .data else .stop) ∧ t.rx.bitno = BitVec.ofNat 3 m := by
  rw [strobeTick_succ m hs.divisor] at hrst hrun
  obtain ⟨r, hsampled, ht⟩ := run_rx_after_strobe hs hm le_rfl hrst hrun
  rw [ht]
  exact ⟨Nat.sub_self _, hsampled.state, hsampled.bitno⟩

/-- From the tick after the falling line to the one that checks the stop bit RX is in START, DATA or STOP. -/
theorem run_rx_inFrame {s t : State} {m n : Nat} (hs : s.StartsFrame) (hm : m ≤ 9) (hn : 1 ≤ n)
    (hle : n ≤ strobeTick s.params.dRx m) (hrst : s.NoRxReset n) (hrun : run n s = .next t) :
    t.rx.state.InFrame := by
  induction m with
  | zero =>
    obtain ⟨n, rfl⟩ := Nat.exists_eq_add_of_le' hn
    rw [strobeTick_zero] at hle
    rw [run_rx_start hs (by omega) hrst hrun]
    exact .inl rfl
  | succ m ih =>
    by_cases hbefore : n ≤ strobeTick s.params.dRx m
    · exact ih (by omega) hbefore
    · obtain ⟨j, rfl⟩ : ∃ j, n = strobeTick s.params.dRx m + 1 + j :=
        Nat.exists_eq_add_of_le (Nat.lt_of_not_le hbefore)
      rw [strobeTick_succ m hs.divisor] at hle
      obtain ⟨r, hsampled, ht⟩ := run_rx_after_strobe hs (by omega) (by omega) hrst hrun
      rw [ht]
      exact hsampled.inFrame

theorem State.rx_flags_low_of_idle {s : State} (hst : s.rx.state = .idle) :
    s.rxReady = false ∧ s.rxErr = false := by
  simp [State.rxReady, State.rxErr, hst]

/-- Both flags are 0 up to the tick that checks the stop bit (41_uart_rx.md R128). -/
theorem run_rx_flags_low {s t : State} {n : Nat} (hs : s.StartsFrame) (hle : n ≤ strobeTick s.params.dRx 9)
    (hrst : s.NoRxReset n) (hrun : run n s = .next t) : t.rxReady = false ∧ t.rxErr = false := by
  rcases Nat.eq_zero_or_pos n with rfl | hn
  · cases hrun
    exact State.rx_flags_low_of_idle hs.idle
  · obtain hst | hst | hst := run_rx_inFrame hs le_rfl hn hle hrst hrun <;>
      simp [State.rxReady, State.rxErr, hst]

/-- The tick after the stop bit's check shows one of the two flags (41_uart_rx.md R128). -/
theorem run_rx_flag_high {s t : State} (hs : s.StartsFrame)
    (hrst : s.NoRxReset (strobeTick s.params.dRx 9 + 1))
    (hrun : run (strobeTick s.params.dRx 9 + 1) s = .next t) : t.rxReady = true ∨ t.rxErr = true := by
  obtain ⟨v, -, hst, -⟩ := run_rx_octet hs.divisor hs.idle hs.bitno hs.line hrst hrun
  rw [State.rxReady_iff, State.rxErr_iff, hst]
  cases v.rxI <;> simp

/-- Settles O50: the ticks of R128 are the strobes, and between them the receiver only counts. -/
theorem rxEventsFallOnTheirTicks : Obligations.RxEventsFallOnTheirTicks := by
  intro s t n hd hst hbit hline hreset hrun d h
  have hs : s.StartsFrame := ⟨hd, hst, hbit, hline⟩
  have hrst : s.NoRxReset n := fun j hj => hreset j hj.le
  have htrst : t.rxRst = false := by
    rw [State.rxRst_eq_inputsAt, run_inputsAt hrun]
    exact hreset n le_rfl
  have hend : 2 + h + 9 * d = strobeTick d 9 + 1 := by
    rw [strobeTick]
    omega
  rw [hend]
  refine ⟨?_, ?_, ?_, ?_, ?_, ?_, ?_⟩
  · rintro rfl
    rw [run_rx_start hs (Nat.zero_le _) hrst hrun]
    exact ⟨rfl, rfl⟩
  · rintro rfl
    rw [Nat.add_comm] at hrst hrun
    have ht := run_rx_start hs le_rfl hrst hrun
    exact ⟨_, _, _, (RxSelects.startGo htrst (by rw [ht]) (by rw [ht]; exact Nat.sub_self h)).fetch⟩
  · rintro i hi rfl
    obtain ⟨htimer, hstate, hbitno⟩ := run_rx_at_strobe hs (by omega) hrst hrun
    rw [if_pos (by omega)] at hstate
    exact (RxSelects.dataShift htrst hstate htimer (by rw [hbitno]; bv_omega)).fetch
  · rintro rfl
    obtain ⟨htimer, hstate, hbitno⟩ := run_rx_at_strobe (m := 7) hs (by omega) hrst hrun
    exact (RxSelects.dataLast htrst hstate htimer hbitno).fetch
  · rintro rfl
    obtain ⟨htimer, hstate, -⟩ := run_rx_at_strobe (m := 8) hs le_rfl hrst hrun
    cases htline : t.rxI with
    | true => exact .inl ⟨_, _, (RxSelects.stopOk htrst hstate htimer htline).fetch⟩
    | false => exact .inr ⟨_, _, (RxSelects.stopFerr htrst hstate htimer htline).fetch⟩
  · exact fun hn => run_rx_flags_low hs (Nat.le_of_lt_succ hn) hrst hrun
  · rintro rfl
    exact run_rx_flag_high hs hrst hrun

/-! ### The octet sent (R129) -/

/-- Eight samples that are the bits of `b` and a high stop bit: `b` is shown (41_uart_rx.md R81, R121). -/
theorem run_rx_delivers {s t : State} {b : Octet} (hs : s.StartsFrame)
    (hrst : s.NoRxReset (strobeTick s.params.dRx 9 + 1))
    (hbits : ∀ i u, i < 8 → run (strobeTick s.params.dRx (i + 1)) s = .next u → u.rxI = b.getLsbD i)
    (hstop : ∀ u, run (strobeTick s.params.dRx 9) s = .next u → u.rxI = true)
    (hrun : run (strobeTick s.params.dRx 9 + 1) s = .next t) : t.rxReady = true ∧ t.rxData = b := by
  obtain ⟨v, hv, hst, hsamples⟩ := run_rx_octet hs.divisor hs.idle hs.bitno hs.line hrst hrun
  constructor
  · rw [State.rxReady_iff, hst, if_pos (hstop v hv)]
  · refine BitVec.eq_of_getLsbD_eq fun i hi => ?_
    have hle : strobeTick s.params.dRx (i + 1) ≤ strobeTick s.params.dRx 9 + 1 :=
      Nat.le_succ_of_le (strobeTick_le (by omega))
    rw [← Nat.add_sub_cancel' hle] at hrun
    obtain ⟨u, hu, -⟩ := run_add_inv hrun
    rw [State.rxData, hsamples i u hi hu, hbits i u hi hu]

/-- Outside loop-back the line after a run is the line driven then. -/
theorem run_rxI {s t : State} {n : Nat} (hwire : s.params.wiring.txToRx = false)
    (hrun : run n s = .next t) : t.rxI = (s.inputsAt n).rxI := by
  rw [State.rxI, run_params hrun, hwire, State.driven_eq_inputsAt_zero, run_inputsAt hrun]
  rfl

/-- Outside the pipeline the acknowledge after a run is the one driven then. -/
theorem run_rxAck {s t : State} {n : Nat} (hwire : s.params.wiring.rxToCobs = false)
    (hrun : run n s = .next t) : t.rxAck = (s.inputsAt n).rxAck := by
  rw [State.rxAck, run_params hrun, hwire, State.driven_eq_inputsAt_zero, run_inputsAt hrun]
  rfl

/-- A frame begins with its start bit. -/
theorem frameLevel_zero (d : Nat) (b : Octet) : frameLevel d b 0 = false := by
  simp [frameLevel, frameBit]

theorem frameBit_succ {i : Nat} (b : Octet) (hi : i < 8) : frameBit b (i + 1) = b.getLsbD i := by
  simp [frameBit, Nat.succ_le_of_lt hi]

theorem frameBit_of_nine_le {j : Nat} (b : Octet) (hj : 9 ≤ j) : frameBit b j = true := by
  rw [frameBit, if_neg (by omega), if_neg (by omega)]

/-- With `D ≥ 3` the delay of half a period and a tick is less than a period: strobe `k` sees bit period `k`. -/
theorem frameLevel_strobeTick {d : Nat} (hd : 3 ≤ d) (b : Octet) (k : Nat) :
    frameLevel d b (strobeTick d k) = frameBit b k := by
  rw [frameLevel, strobeTick, Nat.add_mul_div_right _ _ (by omega), Nat.div_eq_of_lt (by omega), Nat.zero_add]

/-- From the stop bit on the line is high. -/
theorem frameLevel_of_stop {d n : Nat} (b : Octet) (hd : 1 ≤ d) (hn : 9 * d ≤ n) : frameLevel d b n = true :=
  frameBit_of_nine_le b ((Nat.le_div_iff_mul_le hd).mpr hn)

/-- A full receiver that sees no reset, no acknowledge and a high line holds its octet (41_uart_rx.md R125). -/
theorem step_rx_hold {s t : State} (hstep : step s = .next t) (hready : s.rxReady = true)
    (hrst : s.rxRst = false) (hline : s.rxI = true) (hack : s.rxAck = false) :
    t.rxReady = true ∧ t.rxData = s.rxData :=
  ⟨(step_rxReady_iff hstep).mpr ⟨hrst, hline, .inr ⟨s.rxReady_iff.mp hready, hack⟩⟩,
    step_rxData_of_rxReady hstep hready⟩

/-- The acknowledge of a full receiver ends its ready strobe, whatever the line (41_uart_rx.md R123). -/
theorem step_rx_ack {s t : State} (hstep : step s = .next t) (hready : s.rxReady = true)
    (hack : s.rxAck = true) : t.rxReady = false := by
  have hst : s.rx.state = .full := s.rxReady_iff.mp hready
  rw [← Bool.not_eq_true, step_rxReady_iff hstep]
  simp [hst, hack]

/-- The line carries the frame of `b` for `n` ticks, and RX is not reset in them. -/
abbrev State.SeesFrame (s : State) (b : Octet) (n : Nat) : Prop :=
  ∀ j, j < n → (s.inputsAt j).rxRst = false ∧ (s.inputsAt j).rxI = frameLevel s.params.dRx b j

/-- At `D ≥ 3` the octet of the frame is shown in the tick after the stop bit's check. -/
theorem run_rx_frame {s t : State} {b : Octet} (hd : 3 ≤ s.params.dRx)
    (hwire : s.params.wiring.txToRx = false) (hs : s.StartsFrame)
    (hframe : s.SeesFrame b (strobeTick s.params.dRx 9 + 1))
    (hrun : run (strobeTick s.params.dRx 9 + 1) s = .next t) : t.rxReady = true ∧ t.rxData = b := by
  have hlevel : ∀ k u, k ≤ 9 → run (strobeTick s.params.dRx k) s = .next u → u.rxI = frameBit b k := by
    intro k u hk hu
    rw [run_rxI hwire hu, (hframe _ (Nat.lt_succ_of_le (strobeTick_le hk))).2, frameLevel_strobeTick hd]
  refine run_rx_delivers hs (fun j hj => (hframe j hj).1) (fun i u hi hu => ?_) (fun u hu => ?_) hrun
  · rw [hlevel (i + 1) u (by omega) hu, frameBit_succ b hi]
  · rw [hlevel 9 u le_rfl hu, frameBit_of_nine_le b le_rfl]

/-- Without an acknowledge the octet goes on being shown: the line stays high after the stop bit. -/
theorem run_rx_frame_held {s t : State} {b : Octet} {k : Nat} (hd : 3 ≤ s.params.dRx)
    (hwire : s.params.wiring.txToRx = false) (hs : s.StartsFrame)
    (hframe : s.SeesFrame b (strobeTick s.params.dRx 9 + 1 + k))
    (hack : 0 < k → s.params.wiring.rxToCobs = false ∧
      ∀ j, j < k → (s.inputsAt (strobeTick s.params.dRx 9 + 1 + j)).rxAck = false)
    (hrun : run (strobeTick s.params.dRx 9 + 1 + k) s = .next t) : t.rxReady = true ∧ t.rxData = b := by
  induction k generalizing t with
  | zero => exact run_rx_frame hd hwire hs hframe hrun
  | succ k ih =>
    rw [← Nat.add_assoc] at hrun
    obtain ⟨v, hv, hstep⟩ := run_succ_last hrun
    obtain ⟨hseparate, hquiet⟩ := hack k.succ_pos
    obtain ⟨hready, hdata⟩ := ih (fun j hj => hframe j (by omega))
      (fun _ => ⟨hseparate, fun j hj => hquiet j (by omega)⟩) hv
    obtain ⟨hrst, hline⟩ := hframe (strobeTick s.params.dRx 9 + 1 + k) (by omega)
    have hstop : 9 * s.params.dRx ≤ strobeTick s.params.dRx 9 + 1 + k := by
      rw [strobeTick]
      omega
    have hvrst : v.rxRst = false := by rw [State.rxRst_eq_inputsAt, run_inputsAt hv]; exact hrst
    have hvline : v.rxI = true := by
      rw [run_rxI hwire hv, hline, frameLevel_of_stop b (by omega) hstop]
    have hvack : v.rxAck = false := by rw [run_rxAck hseparate hv]; exact hquiet k k.lt_succ_self
    rw [← hdata]
    exact step_rx_hold hstep hready hvrst hvline hvack

/-- Settles O52: before the end of the frame no flag is up, and after it the octet is held until its acknowledge. -/
theorem rxReceivesTheOctetSent : Obligations.RxReceivesTheOctetSent := by
  intro s t b n hd hwire hst hbit hframe ready hack hrun
  have hend : ready = strobeTick s.params.dRx 9 + 1 := by
    rw [strobeTick]
    omega
  have hs : 0 < n → s.StartsFrame := fun hn =>
    ⟨by omega, hst, hbit, by rw [run_rxI hwire (run_zero s), (hframe 0 hn).2, frameLevel_zero]⟩
  by_cases hn : ready ≤ n
  · obtain ⟨k, rfl⟩ := Nat.exists_eq_add_of_le hn
    rw [hend] at hframe hack hrun
    have hheld (hk : 0 < k) := hack (Nat.lt_add_of_pos_right hk)
    obtain ⟨hready, hdata⟩ := run_rx_frame_held hd hwire (hs (by omega)) hframe
      (fun hk => ⟨(hheld hk).1, fun j hj => (hheld hk).2 _ (by omega) (by omega)⟩) hrun
    have herr : t.rxErr = false := by
      rw [← Bool.not_eq_true]
      exact fun herr => t.not_rxReady_and_rxErr ⟨hready, herr⟩
    rw [decide_eq_true hn]
    exact ⟨hready, herr, fun _ => ⟨hdata, fun u hacked hstep => step_rx_ack hstep hready hacked⟩⟩
  · rw [decide_eq_false hn]
    have hlow : t.rxReady = false ∧ t.rxErr = false := by
      rcases Nat.eq_zero_or_pos n with rfl | hpos
      · cases hrun
        exact State.rx_flags_low_of_idle hst
      · exact run_rx_flags_low (hs hpos) (by omega) (fun j hj => (hframe j hj).1) hrun
    exact ⟨hlow.1, hlow.2, fun h => absurd h hn⟩

end Sys2Proof.Machine
end

section
/-! PROOFS. The statements of 42_uart_tx.md: when TX performs each operation and what it does, the requests it
ignores, the waveform of an octet, and the loop-back into the receiver. -/

namespace Sys2Proof.Machine

/-! ### The operations of TX, one by one (R142 to R151) -/

/-- The transition table of TX: each operation with the 'Selected when' of its rule (42_uart_tx.md R142 to R151). -/
inductive TxSelects (s : State) : Instr → Prop where
  | reset (hrst : s.txRst = true) :
      TxSelects s (.txReset s.tx.state.code s.txStb s.txRdy s.txLast)
  | idleHold (hrst : s.txRst = false) (hst : s.tx.state = .idle) (hrdy : s.txRdy = false) :
      TxSelects s (.txIdleHold s.txStb s.txLast)
  | idleLoad (hrst : s.txRst = false) (hst : s.tx.state = .idle) (hrdy : s.txRdy = true) :
      TxSelects s (.txIdleLoad s.txStb s.txLast)
  | startWait (hrst : s.txRst = false) (hst : s.tx.state = .start) (ht : s.tx.timer ≠ 0) :
      TxSelects s (.txStartWait s.txRdy s.txLast)
  | startDrive (hrst : s.txRst = false) (hst : s.tx.state = .start) (ht : s.tx.timer = 0) :
      TxSelects s (.txStartDrive s.txRdy s.txLast)
  | dataWait (hrst : s.txRst = false) (hst : s.tx.state = .data) (ht : s.tx.timer ≠ 0) :
      TxSelects s (.txDataWait s.txRdy s.txLast)
  | dataShift (hrst : s.txRst = false) (hst : s.tx.state = .data) (ht : s.tx.timer = 0)
      (hbit : s.tx.bitno ≠ 7) : TxSelects s (.txDataShift s.txRdy)
  | dataLast (hrst : s.txRst = false) (hst : s.tx.state = .data) (ht : s.tx.timer = 0)
      (hbit : s.tx.bitno = 7) : TxSelects s (.txDataLast s.txRdy)
  | stopWait (hrst : s.txRst = false) (hst : s.tx.state = .stop) (ht : s.tx.timer ≠ 0) :
      TxSelects s (.txStopWait s.txRdy s.txLast)
  | stopDrive (hrst : s.txRst = false) (hst : s.tx.state = .stop) (ht : s.tx.timer = 0) :
      TxSelects s (.txStopDrive s.txRdy s.txLast)

/-- What the table lists is what the selector decodes to. -/
theorem TxSelects.fetch {s : State} {i : Instr} (h : TxSelects s i) : fetch .tx s = some i := by
  rw [fetch_tx]
  cases h with
  | dataShift hrst hst ht hbit => grind [txOperation, State.txStb, State.txLast]
  | _ => simp [txOperation, State.txStb, State.txLast, *]

/-- The table has a row for every state: it splits on the reset, the state and what the state's rows read. -/
theorem exists_txSelects (s : State) : ∃ i, TxSelects s i := by
  cases hrst : s.txRst with
  | true => exact ⟨_, .reset hrst⟩
  | false =>
    cases hst : s.tx.state with
    | idle =>
      cases hrdy : s.txRdy with
      | true => exact ⟨_, .idleLoad hrst hst hrdy⟩
      | false => exact ⟨_, .idleHold hrst hst hrdy⟩
    | start =>
      by_cases ht : s.tx.timer = 0
      · exact ⟨_, .startDrive hrst hst ht⟩
      · exact ⟨_, .startWait hrst hst ht⟩
    | data =>
      by_cases ht : s.tx.timer = 0
      · by_cases hbit : s.tx.bitno = 7
        · exact ⟨_, .dataLast hrst hst ht hbit⟩
        · exact ⟨_, .dataShift hrst hst ht hbit⟩
      · exact ⟨_, .dataWait hrst hst ht⟩
    | stop =>
      by_cases ht : s.tx.timer = 0
      · exact ⟨_, .stopDrive hrst hst ht⟩
      · exact ⟨_, .stopWait hrst hst ht⟩

/-- TX performs exactly the operation that its table lists. -/
theorem fetch_tx_eq_some_iff {s : State} {i : Instr} : fetch .tx s = some i ↔ TxSelects s i := by
  refine ⟨fun h => ?_, TxSelects.fetch⟩
  obtain ⟨j, hj⟩ := exists_txSelects s
  rwa [← Option.some.inj (hj.fetch.symm.trans h)]

/-- Settles O19: the reset row reads the reset level only. -/
theorem txResetReturnsToIdle : Obligations.TxResetReturnsToIdle := by
  intro s
  simp only [fetch_tx_eq_some_iff]
  exact ⟨⟨fun ⟨_, _, _, _, .reset hrst⟩ => hrst, fun hrst => ⟨_, _, _, _, .reset hrst⟩⟩,
    fun _ _ _ _ => ⟨_, rfl, rfl, rfl, rfl⟩⟩

/-- Settles O20: the two rows of IDLE, told apart by the request, and the registers that each writes. -/
theorem txIdleHoldsOrLoads : Obligations.TxIdleHoldsOrLoads := by
  intro s
  simp only [fetch_tx_eq_some_iff]
  refine ⟨⟨?_, ?_⟩, fun _ _ => ⟨_, rfl, rfl, rfl, rfl⟩, ⟨?_, ?_⟩, fun _ _ => ⟨_, rfl, rfl, rfl, rfl⟩⟩
  · exact fun ⟨_, _, .idleHold hrst hst hrdy⟩ => ⟨hrst, hst, hrdy⟩
  · exact fun ⟨hrst, hst, hrdy⟩ => ⟨_, _, .idleHold hrst hst hrdy⟩
  · exact fun ⟨_, _, .idleLoad hrst hst hrdy⟩ => ⟨hrst, hst, hrdy⟩
  · exact fun ⟨hrst, hst, hrdy⟩ => ⟨_, _, .idleLoad hrst hst hrdy⟩

/-- Settles O21: the two rows of START, told apart by the strobe. -/
theorem txStartDrivesTheStartBit : Obligations.TxStartDrivesTheStartBit := by
  intro s
  simp only [fetch_tx_eq_some_iff]
  refine ⟨⟨?_, ?_⟩, fun _ _ => ⟨_, rfl, rfl, rfl, rfl⟩, ⟨?_, ?_⟩, fun _ _ => ⟨_, rfl, rfl, rfl, rfl⟩⟩
  · exact fun ⟨_, _, .startWait hrst hst ht⟩ => ⟨hrst, hst, ht⟩
  · exact fun ⟨hrst, hst, ht⟩ => ⟨_, _, .startWait hrst hst ht⟩
  · exact fun ⟨_, _, .startDrive hrst hst ht⟩ => ⟨hrst, hst, ht⟩
  · exact fun ⟨hrst, hst, ht⟩ => ⟨_, _, .startDrive hrst hst ht⟩

/-- With a zero entering, the shift toward bit 0 is the logical right shift. -/
theorem pushHigh_false_eq_ushiftRight (v : Octet) : pushHigh false v = v >>> 1 := by
  apply BitVec.eq_of_toNat_eq
  rw [pushHigh_eq_ofNat, BitVec.toNat_ofNat, BitVec.toNat_ushiftRight, Nat.shiftRight_eq_div_pow]
  have hv : v.toNat < 256 := v.isLt
  simp only [Bool.toNat_false]
  omega

/-- A strobe in DATA drives bit 0, shifts and counts (42_uart_tx.md R148). -/
theorem exec_txDataShift (q : Bool) (s : State) :
    exec (.txDataShift q) s = .next { s with tx :=
      { state := .data, timer := tickDown s.tx.timer s.params.dTx, bitno := s.tx.bitno + 1
        shreg := s.tx.shreg >>> 1, o := s.tx.shreg.getLsbD 0 } } := by
  rw [← pushHigh_false_eq_ushiftRight]
  rfl

/-- The eighth bit is driven and the bit counter cleared (42_uart_tx.md R149). -/
theorem exec_txDataLast (q : Bool) (s : State) :
    exec (.txDataLast q) s = .next { s with tx :=
      { state := .stop, timer := tickDown s.tx.timer s.params.dTx, bitno := 0
        shreg := s.tx.shreg >>> 1, o := s.tx.shreg.getLsbD 0 } } := by
  rw [← pushHigh_false_eq_ushiftRight]
  rfl

/-- Settles O22: the three rows of DATA, with the shift as a logical right shift. -/
theorem txDataDrivesTheBits : Obligations.TxDataDrivesTheBits := by
  intro s
  simp only [fetch_tx_eq_some_iff]
  refine ⟨⟨?_, ?_⟩, fun _ _ => ⟨_, rfl, rfl, rfl, rfl⟩,
    ⟨?_, ?_⟩, fun q => ⟨_, exec_txDataShift q s, rfl, rfl, rfl⟩,
    ⟨?_, ?_⟩, fun q => ⟨_, exec_txDataLast q s, rfl, rfl, rfl⟩⟩
  · exact fun ⟨_, _, .dataWait hrst hst ht⟩ => ⟨hrst, hst, ht⟩
  · exact fun ⟨hrst, hst, ht⟩ => ⟨_, _, .dataWait hrst hst ht⟩
  · exact fun ⟨_, .dataShift hrst hst ht hbit⟩ => ⟨hrst, hst, ht, hbit⟩
  · exact fun ⟨hrst, hst, ht, hbit⟩ => ⟨_, .dataShift hrst hst ht hbit⟩
  · exact fun ⟨_, .dataLast hrst hst ht hbit⟩ => ⟨hrst, hst, ht, hbit⟩
  · exact fun ⟨hrst, hst, ht, hbit⟩ => ⟨_, .dataLast hrst hst ht hbit⟩

/-- Settles O23: the two rows of STOP, told apart by the strobe. -/
theorem txStopDrivesTheStopLevel : Obligations.TxStopDrivesTheStopLevel := by
  intro s
  simp only [fetch_tx_eq_some_iff]
  refine ⟨⟨?_, ?_⟩, fun _ _ => ⟨_, rfl, rfl, rfl, rfl⟩, ⟨?_, ?_⟩, fun _ _ => ⟨_, rfl, rfl, rfl, rfl⟩⟩
  · exact fun ⟨_, _, .stopWait hrst hst ht⟩ => ⟨hrst, hst, ht⟩
  · exact fun ⟨hrst, hst, ht⟩ => ⟨_, _, .stopWait hrst hst ht⟩
  · exact fun ⟨_, _, .stopDrive hrst hst ht⟩ => ⟨hrst, hst, ht⟩
  · exact fun ⟨hrst, hst, ht⟩ => ⟨_, _, .stopDrive hrst hst ht⟩

/-! ### Requests while busy (R154) -/

/-- Outside IDLE no edge of the transmitter's graph reads the request or the octet. -/
theorem Tx.next_of_busy {x : Tx} (hst : x.state ≠ .idle) (d : Nat) (rst : Bool) (rdy rdy' : Bool)
    (b b' : Octet) : Tx.next d rdy b rst x = Tx.next d rdy' b' rst x := by
  cases h : x.state with
  | idle => exact absurd h hst
  | start => simp only [Tx.next, h]
  | data => simp only [Tx.next, h]
  | stop => simp only [Tx.next, h]

/-- Settles O40: the other three machines do not read the request, and a busy transmitter does not either. -/
theorem txIgnoresRequestsWhileBusy : Obligations.TxIgnoresRequestsWhileBusy := by
  intro s rdy data hack
  have hbusy : s.tx.state ≠ .idle := by simp [← s.txAck_iff, hack]
  rw [stepIsTheSynchronousProduct, stepIsTheSynchronousProduct s,
    ← Tx.next_of_busy hbusy s.params.dTx s.txRst rdy s.txRdy data s.txData]
  rfl

/-! ### The waveform of an octet (R153)

The tick that loads an octet begins a period of `D` ticks with the line still high; the nine periods after it begin
with a strobe each, and carry the start bit and the data bits. The strobe that ends the last one drives the stop
level. Within a period only the timer moves. -/

/-- TX is idle and sees a request: this tick loads an octet (42_uart_tx.md R144). -/
structure State.LoadsOctet (s : State) : Prop where
  divisor : 1 ≤ s.params.dTx
  idle : s.tx.state = .idle
  bitno : s.tx.bitno = 0
  request : s.txRdy = true

/-- No reset of TX in the first `n` ticks. -/
abbrev State.NoTxReset (s : State) (n : Nat) : Prop := ∀ j, j < n → (s.inputsAt j).txRst = false

theorem State.NoTxReset.mono {s : State} {m n : Nat} (h : s.NoTxReset n) (hle : m ≤ n) : s.NoTxReset m :=
  fun j hj => h j (hj.trans_le hle)

theorem State.NoTxReset.txRst {s t : State} {m n : Nat} (h : s.NoTxReset n) (hrun : run m s = .next t)
    (hm : m < n) : t.txRst = false := by
  rw [State.txRst, State.driven_eq_inputsAt_zero, run_inputsAt hrun]
  exact h m hm

/-- The registers of TX in tick `j` of a period: period 0 waits with the octet `b` loaded, period `k + 1` has bit `k`
of its frame on the line and `k` data bits behind it. -/
def Tx.inPeriod (d : Nat) (b : Octet) : Nat → Nat → Tx
  | 0, j => { state := .start, timer := d - 1 - j, bitno := 0, shreg := b, o := true }
  | k + 1, j =>
    { state := if k < 8 then .data else .stop, timer := d - 1 - j, bitno := BitVec.ofNat 3 k,
      shreg := b >>> k, o := frameBit b k }

theorem Tx.inPeriod_timer (d : Nat) (b : Octet) (m j : Nat) : (Tx.inPeriod d b m j).timer = d - 1 - j := by
  cases m <;> rfl

theorem Tx.inPeriod_state_ne_idle (d : Nat) (b : Octet) (m j : Nat) :
    (Tx.inPeriod d b m j).state ≠ .idle := by
  cases m with
  | zero => simp [Tx.inPeriod]
  | succ k => by_cases hk : k < 8 <;> simp [Tx.inPeriod, hk]

/-- The waveform is high for the period of the load, and then it is the frame. -/
theorem txWaveform_after_period (d n : Nat) (b : Octet) : txWaveform d b (d + 1 + n) = frameLevel d b n := by
  rw [txWaveform, if_neg (by omega), Nat.sub_sub, Nat.add_sub_cancel_left]

/-- The line in a period is the waveform's (42_uart_tx.md R153). -/
theorem Tx.inPeriod_o {d j : Nat} (b : Octet) (m : Nat) (hj : j < d) :
    (Tx.inPeriod d b m j).o = txWaveform d b (m * d + 1 + j) := by
  cases m with
  | zero => rw [txWaveform, if_pos (by omega), Tx.inPeriod]
  | succ k =>
    have htick : (k + 1) * d + 1 + j = d + 1 + (j + k * d) := by
      rw [Nat.succ_mul]
      omega
    rw [htick, txWaveform_after_period, frameLevel, Nat.add_mul_div_right _ _ (by omega), Nat.div_eq_of_lt hj,
      Nat.zero_add, Tx.inPeriod]

/-- Between strobes a busy transmitter only counts (42_uart_tx.md R145, R147, R150). -/
theorem Tx.next_of_not_strobe {x : Tx} (d : Nat) (rdy : Bool) (c : Octet) (hst : x.state ≠ .idle)
    (ht : x.timer ≠ 0) : Tx.next d rdy c false x = { x with timer := x.timer - 1 } := by
  cases h : x.state with
  | idle => exact absurd h hst
  | start => simp [Tx.next, h, ht, tickDown_of_pos]
  | data => simp [Tx.next, h, ht, tickDown_of_pos]
  | stop => simp [Tx.next, h, ht, tickDown_of_pos]

/-- Within a period the timer counts down. -/
theorem Tx.next_inPeriod {d j : Nat} (rdy : Bool) (b c : Octet) (m : Nat) (hj : j + 1 < d) :
    Tx.next d rdy c false (Tx.inPeriod d b m j) = Tx.inPeriod d b m (j + 1) := by
  have htimer : (Tx.inPeriod d b m j).timer ≠ 0 := by
    rw [Tx.inPeriod_timer]
    omega
  rw [Tx.next_of_not_strobe d rdy c (Tx.inPeriod_state_ne_idle d b m j) htimer]
  cases m <;> rfl

/-- The strobe that ends period `m < 9` begins the next one (42_uart_tx.md R146, R148, R149). -/
theorem Tx.next_inPeriod_last {m : Nat} (d : Nat) (rdy : Bool) (b c : Octet) (hm : m < 9) :
    Tx.next d rdy c false (Tx.inPeriod d b m (d - 1)) = Tx.inPeriod d b (m + 1) 0 := by
  cases m with
  | zero => simp [Tx.next, Tx.inPeriod, frameBit]
  | succ k =>
    have hk : k < 8 := Nat.lt_of_succ_lt_succ hm
    have hseven : BitVec.ofNat 3 k = 7 ↔ ¬k + 1 < 8 := by bv_omega
    have hcount : (if k + 1 < 8 then BitVec.ofNat 3 k + 1 else 0) = BitVec.ofNat 3 (k + 1) := by
      split <;> bv_omega
    have hbit : (b >>> k).getLsbD 0 = frameBit b (k + 1) := by
      rw [frameBit_succ b hk, BitVec.getLsbD_ushiftRight, Nat.add_zero]
    have hshift : pushHigh false (b >>> k) = b >>> (k + 1) := by
      rw [pushHigh_false_eq_ushiftRight, BitVec.shiftRight_add]
    simp only [Tx.next, Tx.inPeriod, hk, hseven, hcount, hbit, hshift, ite_not, if_true, if_false,
      Bool.false_eq_true, Nat.sub_self, Nat.sub_zero, tickDown_zero]

/-- The strobe that ends period 9 drives the stop level and goes to IDLE (42_uart_tx.md R151). -/
theorem Tx.next_inPeriod_nine_last (d : Nat) (rdy : Bool) (b c : Octet) :
    (Tx.next d rdy c false (Tx.inPeriod d b 9 (d - 1))).state = .idle ∧
      (Tx.next d rdy c false (Tx.inPeriod d b 9 (d - 1))).o = true := by
  simp [Tx.next, Tx.inPeriod]

theorem step_tx_load {s t : State} (hs : s.LoadsOctet) (hrst : s.txRst = false)
    (hstep : step s = .next t) : t.tx = Tx.inPeriod s.params.dTx s.txData 0 0 := by
  rw [step_tx hstep, hrst, hs.request]
  simp [Tx.next, Tx.inPeriod, hs.idle, hs.bitno]

/-- A period whose first tick comes after `n` ticks, in its tick `j`. -/
theorem run_tx_inPeriod_of_first {s t : State} {b : Octet} {m n j : Nat} (hj : j < s.params.dTx)
    (hfirst : ∀ u, run n s = .next u → u.tx = Tx.inPeriod s.params.dTx b m 0)
    (hrst : s.NoTxReset (n + j)) (hrun : run (n + j) s = .next t) :
    t.tx = Tx.inPeriod s.params.dTx b m j := by
  induction j generalizing t with
  | zero => exact hfirst t hrun
  | succ j ih =>
    obtain ⟨u, hu, hstep⟩ := run_succ_last hrun
    have hutx := ih (by omega) (hrst.mono (by omega)) hu
    rw [step_tx hstep, hrst.txRst hu (Nat.lt_succ_self _), hutx, run_params hu, Tx.next_inPeriod _ _ _ _ hj]

/-- The ten periods after a load follow each other every `D` ticks. -/
theorem run_tx_inPeriod {s t : State} {m j : Nat} (hs : s.LoadsOctet) (hm : m ≤ 9) (hj : j < s.params.dTx)
    (hrst : s.NoTxReset (m * s.params.dTx + 1 + j)) (hrun : run (m * s.params.dTx + 1 + j) s = .next t) :
    t.tx = Tx.inPeriod s.params.dTx s.txData m j := by
  induction m generalizing j t with
  | zero =>
    refine run_tx_inPeriod_of_first hj (fun u hu => ?_) hrst hrun
    rw [Nat.zero_mul] at hu
    obtain ⟨v, hstep, ⟨⟩⟩ := run_succ_inv hu
    exact step_tx_load hs (hrst.txRst (run_zero s) (by omega)) hstep
  | succ m ih =>
    refine run_tx_inPeriod_of_first hj (fun u hu => ?_) hrst hrun
    obtain ⟨v, hv, hstep⟩ := run_succ_last hu
    have hvrst : v.txRst = false := hrst.txRst hv (by omega)
    have hend : (m + 1) * s.params.dTx = m * s.params.dTx + 1 + (s.params.dTx - 1) := by
      rw [Nat.succ_mul]
      omega
    rw [hend] at hv hrst
    have hvtx := ih (by omega) (Nat.sub_one_lt_of_lt hj) (hrst.mono (by omega)) hv
    rw [step_tx hstep, hvrst, hvtx, run_params hv, Tx.next_inPeriod_last _ _ _ _ hm]

/-- After the ten periods TX is idle with the line high (42_uart_tx.md R153). -/
theorem run_tx_frame_end {s t : State} (hs : s.LoadsOctet) (hrst : s.NoTxReset (10 * s.params.dTx + 1))
    (hrun : run (10 * s.params.dTx + 1) s = .next t) : t.tx.state = .idle ∧ t.tx.o = true := by
  have hd := hs.divisor
  obtain ⟨v, hv, hstep⟩ := run_succ_last hrun
  have hvrst : v.txRst = false := hrst.txRst hv (Nat.lt_succ_self _)
  have hend : 10 * s.params.dTx = 9 * s.params.dTx + 1 + (s.params.dTx - 1) := by omega
  rw [hend] at hv hrst
  have hvtx := run_tx_inPeriod hs le_rfl (by omega) (hrst.mono (Nat.le_succ _)) hv
  rw [step_tx hstep, hvrst, hvtx, run_params hv]
  exact Tx.next_inPeriod_nine_last _ _ _ _

/-- Tick `n` after a load is tick `j` of period `m`, up to the end of the ten periods. -/
theorem exists_period_of_tick {d n : Nat} (hn : 1 ≤ n) (hle : n ≤ 10 * d) :
    ∃ m j, m ≤ 9 ∧ j < d ∧ n = m * d + 1 + j := by
  have hd : 0 < d := by omega
  have hm : (n - 1) / d < 10 := (Nat.div_lt_iff_lt_mul hd).mpr (by omega)
  refine ⟨(n - 1) / d, (n - 1) % d, Nat.le_of_lt_succ hm, Nat.mod_lt _ hd, ?_⟩
  have hsplit := Nat.div_add_mod' (n - 1) d
  omega

/-- In the ten periods the transmitter is busy and drives the waveform (42_uart_tx.md R153). -/
theorem run_tx_frame {s t : State} {n : Nat} (hs : s.LoadsOctet) (hn : 1 ≤ n) (hle : n ≤ 10 * s.params.dTx)
    (hrst : s.NoTxReset n) (hrun : run n s = .next t) :
    t.tx.state ≠ .idle ∧ t.tx.o = txWaveform s.params.dTx s.txData n := by
  obtain ⟨m, j, hm, hj, rfl⟩ := exists_period_of_tick hn hle
  rw [run_tx_inPeriod hs hm hj hrst hrun]
  exact ⟨Tx.inPeriod_state_ne_idle _ _ _ _, Tx.inPeriod_o _ _ hj⟩

/-- Settles O54: ten periods of the waveform with TX busy, and the tick after them with TX idle. -/
theorem txWaveformIsTheFrame : Obligations.TxWaveformIsTheFrame := by
  intro s t n hd hst hbit hrdy hrst hn hle hrun
  have hs : s.LoadsOctet := ⟨hd, hst, hbit, hrdy⟩
  rcases hle.lt_or_eq with hlt | rfl
  · obtain ⟨hbusy, ho⟩ := run_tx_frame hs hn (Nat.le_of_lt_succ hlt) hrst hrun
    refine ⟨ho, ?_⟩
    rw [decide_eq_false hlt.ne, ← Bool.not_eq_true, t.txAck_iff]
    exact hbusy
  · obtain ⟨hidle, ho⟩ := run_tx_frame_end hs hrst hrun
    have hstop : txWaveform s.params.dTx s.txData (10 * s.params.dTx + 1) = true := by
      rw [txWaveform, if_neg (by omega), frameLevel_of_stop _ hd (by omega)]
    exact ⟨ho.trans hstop.symm, by rw [decide_eq_true rfl, t.txAck_iff]; exact hidle⟩

/-! ### Loop-back (R155)

The receiver stays in IDLE while the line is still high, sees the start bit in tick `D + 1`, and samples each bit
half a period and a tick later; the last sample falls after the frame, on a line that TX still holds high. -/

/-- TX holds the line high for `D` ticks from an idle one on: `n` ticks later it is idle, or waits out the period
after a load. -/
structure Tx.HoldsLine (d n : Nat) (x : Tx) : Prop where
  line : x.o = true
  state : x.state = .idle ∨ x.state = .start ∧ d ≤ x.timer + n

/-- The line stays high in the first `D` ticks, whatever is requested or reset. -/
theorem Tx.HoldsLine.next {d n : Nat} {x : Tx} (h : Tx.HoldsLine d n x) (hn : n < d) (rdy : Bool) (b : Octet)
    (rst : Bool) : Tx.HoldsLine d (n + 1) (Tx.next d rdy b rst x) := by
  obtain ⟨ho, hst⟩ := h
  cases rst with
  | true => exact ⟨rfl, .inl rfl⟩
  | false =>
    rcases hst with hidle | ⟨hstart, htimer⟩
    · cases rdy with
      | true =>
        have htimer : d ≤ d - 1 + (n + 1) := by omega
        exact ⟨by simp [Tx.next, hidle], .inr (by simp [Tx.next, hidle, htimer])⟩
      | false => exact ⟨by simp [Tx.next, hidle], .inl (by simp [Tx.next, hidle])⟩
    · have hbusy : x.state ≠ .idle := by simp [hstart]
      rw [Tx.next_of_not_strobe d rdy b hbusy (by omega)]
      have hcount : d ≤ x.timer - 1 + (n + 1) := by omega
      exact ⟨ho, .inr ⟨hstart, hcount⟩⟩

theorem run_tx_holdsLine {s t : State} {n : Nat} (hst : s.tx.state = .idle) (ho : s.tx.o = true)
    (hn : n ≤ s.params.dTx) (hrun : run n s = .next t) : Tx.HoldsLine s.params.dTx n t.tx := by
  induction n generalizing t with
  | zero => cases hrun; exact ⟨ho, .inl hst⟩
  | succ n ih =>
    obtain ⟨u, hu, hstep⟩ := run_succ_last hrun
    rw [step_tx hstep, run_params hu]
    exact (ih (by omega) hu).next hn _ _ _

/-- On a high line an idle receiver stays idle (41_uart_rx.md R113). -/
theorem run_rx_idle {s t : State} {n : Nat} (hst : s.rx.state = .idle) (hrst : s.NoRxReset n)
    (hline : ∀ j u, j < n → run j s = .next u → u.rxI = true) (hrun : run n s = .next t) :
    t.rx.state = .idle ∧ t.rx.bitno = s.rx.bitno := by
  induction n generalizing t with
  | zero => cases hrun; exact ⟨hst, rfl⟩
  | succ n ih =>
    obtain ⟨u, hu, hstep⟩ := run_succ_last hrun
    obtain ⟨hustate, hubit⟩ := ih (hrst.mono n.le_succ) (fun j v hj => hline j v (by omega)) hu
    have hurst : u.rxRst = false := (hrst.after hu).rxRst (by omega)
    rw [step_rx hstep, hurst, hline n u n.lt_succ_self hu]
    simp [Rx.next, hustate, hubit]

/-- In loop-back the line into RX is the line out of TX. -/
theorem run_rxI_of_loopBack {s t : State} {n : Nat} (hwire : s.params.wiring.txToRx = true)
    (hrun : run n s = .next t) : t.rxI = t.tx.o := by
  rw [State.rxI, run_params hrun, if_pos hwire, State.txO]

/-- Counted from tick `D + 1`, in which the line falls, the receiver's strobe `k` finds bit `k` of the frame. -/
theorem run_tx_strobeTick {s t : State} {k : Nat} (hs : s.LoadsOctet) (hd : 3 ≤ s.params.dTx) (hk : k ≤ 9)
    (hrst : s.NoTxReset (s.params.dTx + 1 + strobeTick s.params.dTx k))
    (hrun : run (s.params.dTx + 1 + strobeTick s.params.dTx k) s = .next t) :
    t.tx.o = frameBit s.txData k := by
  rcases hk.lt_or_eq with hlt | rfl
  · have hle : s.params.dTx + 1 + strobeTick s.params.dTx k ≤ 10 * s.params.dTx := by
      have hstrobe : strobeTick s.params.dTx k ≤ 1 + s.params.dTx / 2 + 8 * s.params.dTx :=
        strobeTick_le (Nat.le_of_lt_succ hlt)
      omega
    rw [(run_tx_frame hs (by omega) hle hrst hrun).2, txWaveform_after_period, frameLevel_strobeTick hd]
  · have hlate : s.params.dTx + 1 + strobeTick s.params.dTx 9 =
        10 * s.params.dTx + 1 + (s.params.dTx / 2 + 1) := by
      rw [strobeTick]
      omega
    rw [hlate] at hrst hrun
    obtain ⟨u, hu, hrest⟩ := run_add_inv hrun
    obtain ⟨hidle, ho⟩ := run_tx_frame_end hs (hrst.mono (by omega)) hu
    rw [frameBit_of_nine_le _ le_rfl]
    exact (run_tx_holdsLine hidle ho (by rw [run_params hu]; omega) hrest).line

/-- In tick `D + 1` after the load the receiver, idle until then, sees the line fall. -/
theorem run_rx_startsFrame {s t : State} (hwire : s.params.wiring.txToRx = true) (hd : 1 ≤ s.params.dRx)
    (hrx : s.rx.state = .idle) (hbit : s.rx.bitno = 0) (hs : s.LoadsOctet) (ho : s.tx.o = true)
    (hrxrst : s.NoRxReset (s.params.dTx + 1)) (htxrst : s.NoTxReset (s.params.dTx + 1))
    (hrun : run (s.params.dTx + 1) s = .next t) : t.StartsFrame := by
  have hdt := hs.divisor
  have hhigh : ∀ j u, j < s.params.dTx + 1 → run j s = .next u → u.rxI = true := by
    intro j u hj hu
    rw [run_rxI_of_loopBack hwire hu]
    exact (run_tx_holdsLine hs.idle ho (Nat.le_of_lt_succ hj) hu).line
  have hline : t.rxI = false := by
    rw [run_rxI_of_loopBack hwire hrun, (run_tx_frame hs (by omega) (by omega) htxrst hrun).2]
    exact (txWaveform_after_period _ 0 _).trans (frameLevel_zero _ _)
  obtain ⟨hidle, htbit⟩ := run_rx_idle hrx hrxrst hhigh hrun
  exact ⟨by rwa [run_params hrun], hidle, htbit.trans hbit, hline⟩

/-- Settles O55: the receiver starts in tick `D + 1`, and its strobes see the bits of the octet and the stop
level. -/
theorem loopBackDeliversTheOctet : Obligations.LoopBackDeliversTheOctet := by
  intro s t hwire hsame hd hrx hrxbit htx htxbit ho hrdy ready hquiet hrun
  have hdt : 3 ≤ s.params.dTx := hsame ▸ hd
  have hs : s.LoadsOctet := ⟨by omega, htx, htxbit, hrdy⟩
  have hready : ready = s.params.dTx + 1 + (strobeTick s.params.dRx 9 + 1) := by
    rw [strobeTick]
    omega
  have hrxrst : s.NoRxReset ready := fun j hj => (hquiet j hj).1
  have htxrst : s.NoTxReset ready := fun j hj => (hquiet j hj).2
  rw [hready] at hrun hrxrst htxrst
  obtain ⟨u, hu, hrest⟩ := run_add_inv hrun
  have hup := run_params hu
  have hstart : u.StartsFrame := run_rx_startsFrame hwire (by omega) hrx hrxbit hs ho
    (hrxrst.mono (by omega)) (htxrst.mono (by omega)) hu
  have hlevel : ∀ k v, k ≤ 9 → run (strobeTick u.params.dRx k) u = .next v → v.rxI = frameBit s.txData k := by
    intro k v hk hv
    rw [hup, ← hsame, ← run_add hu] at hv
    rw [run_rxI_of_loopBack hwire hv]
    have hle : strobeTick s.params.dTx k ≤ strobeTick s.params.dRx 9 := hsame ▸ strobeTick_le hk
    exact run_tx_strobeTick hs hdt hk (htxrst.mono (by omega)) hv
  have hurst : u.NoRxReset (strobeTick s.params.dRx 9 + 1) := (hrxrst.after hu).mono (by omega)
  rw [← hup] at hrest hurst
  refine run_rx_delivers hstart hurst (fun i v hi hv => ?_) (fun v hv => ?_) hrest
  · rw [hlevel (i + 1) v (by omega) hv, frameBit_succ _ hi]
  · rw [hlevel 9 v le_rfl hv, frameBit_of_nine_le _ le_rfl]

end Sys2Proof.Machine
end

section
/-! PROOFS. The statements of 43_cobs_decoder.md: when COBS performs each operation and what it does, the only stop of
the hardware, and the stream of complete blocks decoded. -/

namespace Sys2Proof.Machine

/-! ### The operations of COBS, one by one (R162 to R168) -/

/-- The transition table of COBS: each operation with the 'Selected when' of its rule
(43_cobs_decoder.md R162 to R168). -/
inductive CobsSelects (s : State) : Instr → Prop where
  | idle (hrdy : s.iRdy = false) :
      CobsSelects s (.cobsIdle s.cobs.state.code s.cobsLast (valueClass s.iData))
  | lenZero (hst : s.cobs.state = .awaitLen) (hrdy : s.iRdy = true) (hb : s.iData = 0) :
      CobsSelects s (.cobsLenZero s.cobsLast)
  | lenOne (hst : s.cobs.state = .awaitLen) (hrdy : s.iRdy = true) (hb : s.iData = 1) :
      CobsSelects s (.cobsLenOne s.cobsLast)
  | lenN (hst : s.cobs.state = .awaitLen) (hrdy : s.iRdy = true) (hb : 2 ≤ s.iData.toNat) :
      CobsSelects s (.cobsLenN s.cobsLast)
  | dataMid (hst : s.cobs.state = .inBlock) (hrdy : s.iRdy = true)
      (hl : (s.cobs.cnt.toNat : Int) + 1 ≠ (s.cobs.len.toNat : Int) - 1) :
      CobsSelects s (.cobsDataMid (valueClass s.iData))
  | dataLast (hst : s.cobs.state = .inBlock) (hrdy : s.iRdy = true)
      (hl : (s.cobs.cnt.toNat : Int) + 1 = (s.cobs.len.toNat : Int) - 1) :
      CobsSelects s (.cobsDataLast (valueClass s.iData))

/-- What the table lists is what the selector decodes to. -/
theorem CobsSelects.fetch {s : State} {i : Instr} (h : CobsSelects s i) : fetch .cobs s = some i := by
  rw [fetch_cobs]
  cases h with
  | lenN hst hrdy hb =>
    have h0 : s.iData ≠ 0 := fun h => by simp [h] at hb
    have h1 : s.iData ≠ 1 := fun h => by simp [h] at hb
    simp only [cobsOperation, hst, hrdy, h0, h1, if_true, if_false]
  | _ => simp [cobsOperation, State.cobsLast, *]

/-- The table has a row for every state: it splits on the request, the state and what the state's rows read. -/
theorem exists_cobsSelects (s : State) : ∃ i, CobsSelects s i := by
  cases hrdy : s.iRdy with
  | false => exact ⟨_, .idle hrdy⟩
  | true =>
    cases hst : s.cobs.state with
    | awaitLen =>
      by_cases h0 : s.iData = 0
      · exact ⟨_, .lenZero hst hrdy h0⟩
      by_cases h1 : s.iData = 1
      · exact ⟨_, .lenOne hst hrdy h1⟩
      · exact ⟨_, .lenN hst hrdy (two_le_toNat h0 h1)⟩
    | inBlock =>
      by_cases hl : (s.cobs.cnt.toNat : Int) + 1 = (s.cobs.len.toNat : Int) - 1
      · exact ⟨_, .dataLast hst hrdy hl⟩
      · exact ⟨_, .dataMid hst hrdy hl⟩

/-- COBS performs exactly the operation that its table lists. -/
theorem fetch_cobs_eq_some_iff {s : State} {i : Instr} : fetch .cobs s = some i ↔ CobsSelects s i := by
  refine ⟨fun h => ?_, CobsSelects.fetch⟩
  obtain ⟨j, hj⟩ := exists_cobsSelects s
  rwa [← Option.some.inj (hj.fetch.symm.trans h)]

/-- Settles O24: the idle row reads the request only. -/
theorem cobsIdleShowsNothing : Obligations.CobsIdleShowsNothing := by
  intro s
  simp only [fetch_cobs_eq_some_iff]
  exact ⟨⟨fun ⟨_, _, _, .idle hrdy⟩ => hrdy, fun hrdy => ⟨_, _, _, .idle hrdy⟩⟩, fun _ _ _ => rfl⟩

/-- A length byte of 1 leaves the decoder between blocks with a zero owed (43_cobs_decoder.md R163, R165). -/
theorem exec_cobsLenOne (l : Bool) (s : State) :
    exec (.cobsLenOne l) s =
      .next (s.setCobs { state := .awaitLen, len := 1, cnt := 0, zp := true,
                         oData := if s.cobs.zp then 0 else s.cobs.oData, oRdy := s.cobs.zp }) := by
  simp only [exec, execCobsLenOne, Cobs.emitPendingZero_eq]

/-- A longer length byte opens a block (43_cobs_decoder.md R164, R165). -/
theorem exec_cobsLenN (l : Bool) (s : State) :
    exec (.cobsLenN l) s =
      .next (s.setCobs { state := .inBlock, len := s.iData, cnt := 0, zp := false,
                         oData := if s.cobs.zp then 0 else s.cobs.oData, oRdy := s.cobs.zp }) := by
  simp only [exec, execCobsLenN, Cobs.emitPendingZero_eq]

/-- Settles O25: the two rows of a length byte, told apart by its value; both show the pending zero. -/
theorem cobsLengthByteEmitsThePendingZero : Obligations.CobsLengthByteEmitsThePendingZero := by
  intro s
  simp only [fetch_cobs_eq_some_iff, exec_cobsLenOne, exec_cobsLenN, Bool.if_true_left, Bool.or_false,
    Bool.decide_eq_true]
  refine ⟨⟨?_, ?_⟩, fun _ => rfl, ⟨?_, ?_⟩, fun _ => rfl⟩
  · exact fun ⟨_, .lenOne hst hrdy hb⟩ => ⟨hst, hrdy, hb⟩
  · exact fun ⟨hst, hrdy, hb⟩ => ⟨_, .lenOne hst hrdy hb⟩
  · exact fun ⟨_, .lenN hst hrdy hb⟩ => ⟨hst, hrdy, hb⟩
  · exact fun ⟨hst, hrdy, hb⟩ => ⟨_, .lenN hst hrdy hb⟩

/-- Settles O26: the row of the zero length byte, whose operation faults in every state. -/
theorem cobsZeroLengthFaults : Obligations.CobsZeroLengthFaults := by
  intro s
  simp only [fetch_cobs_eq_some_iff]
  refine ⟨⟨?_, ?_⟩, fun _ => rfl⟩
  · exact fun ⟨_, .lenZero hst hrdy hb⟩ => ⟨hst, hrdy, hb⟩
  · exact fun ⟨hst, hrdy, hb⟩ => ⟨_, .lenZero hst hrdy hb⟩

/-- The last data byte owes a zero unless the block has length 255 (43_cobs_decoder.md R168). -/
theorem exec_cobsDataLast (v : BitVec 2) (s : State) :
    exec (.cobsDataLast v) s =
      .next (s.setCobs { s.cobs with oData := s.iData, oRdy := true, cnt := 0,
                                     zp := decide (s.cobs.len ≠ 255), state := .awaitLen }) := by
  simp only [exec, execCobsDataLast, Cobs.emit_eq, bne, Bool.beq_eq_decide_eq, decide_not]

/-- Settles O27: the two rows of a data byte, told apart by the counter. -/
theorem cobsDataBytesAreEmittedVerbatim : Obligations.CobsDataBytesAreEmittedVerbatim := by
  intro s
  simp only [fetch_cobs_eq_some_iff]
  refine ⟨⟨?_, ?_⟩, fun _ => rfl, ⟨?_, ?_⟩, fun v => exec_cobsDataLast v s⟩
  · exact fun ⟨_, .dataMid hst hrdy hl⟩ => ⟨hst, hrdy, hl⟩
  · exact fun ⟨hst, hrdy, hl⟩ => ⟨_, .dataMid hst hrdy hl⟩
  · exact fun ⟨_, .dataLast hst hrdy hl⟩ => ⟨hst, hrdy, hl⟩
  · exact fun ⟨hst, hrdy, hl⟩ => ⟨_, .dataLast hst hrdy hl⟩

/-! ### The only stop (R166) -/

/-- The decoder's graph lacks one edge: that of a zero length byte (43_cobs_decoder.md R160). -/
theorem Cobs.next_eq_none_iff {rdy : Bool} {b : Octet} {c : Cobs} :
    Cobs.next rdy b c = none ↔ c.state = .awaitLen ∧ rdy = true ∧ b = 0 := by
  refine ⟨fun h => ?_, fun ⟨hst, hrdy, hb⟩ => by rw [hrdy, hb, Cobs.next_lenZero hst]⟩
  cases rdy with
  | false => cases h
  | true =>
    cases hst : c.state with
    | awaitLen =>
      by_cases h0 : b = 0
      · exact ⟨rfl, rfl, h0⟩
      by_cases h1 : b = 1
      · rw [h1, Cobs.next_lenOne hst] at h; cases h
      · rw [Cobs.next_lenN hst h0 h1] at h; cases h
    | inBlock =>
      by_cases hl : c.cnt.toNat + 2 = c.len.toNat
      · rw [Cobs.next_dataLast b hst hl] at h; cases h
      · rw [Cobs.next_dataMid b hst hl] at h; cases h

/-- Settles O9: a step stops exactly where the decoder's graph has no edge. -/
theorem stepStopsOnlyOnZeroLength : Obligations.StepStopsOnlyOnZeroLength := by
  intro s
  rw [← Cobs.next_eq_none_iff, stepIsTheSynchronousProduct s]
  cases Cobs.next s.iRdy s.iData s.cobs with
  | none => simp
  | some c => simp

/-! ### The stream (R170)

`decode_stream` reads block by block, the decoder byte by byte. `CobsStream` is the byte-by-byte reading of
`decode_stream`; `Cobs.Awaits` ties the decoder's registers to a position in it. -/

/-- `CobsStream k z bytes out z'`: read from a position with `k` data bytes of the block still to come and `z` the
zero owed after them, the complete blocks `bytes` put out `out` and leave the zero `z'` pending
(30_encoding.md R83, R84). -/
inductive CobsStream : Nat → Bool → List Octet → List Octet → Bool → Prop where
  | done {z : Bool} : CobsStream 0 z [] [] z
  | length {z z' : Bool} {len : Octet} {bytes out : List Octet} (hlen : 1 ≤ len.toNat)
      (h : CobsStream (len.toNat - 1) (decide (len.toNat < 255)) bytes out z') :
      CobsStream 0 z (len :: bytes) ((if z then [0] else []) ++ out) z'
  | data {k : Nat} {z z' : Bool} {b : Octet} {bytes out : List Octet} (h : CobsStream k z bytes out z') :
      CobsStream (k + 1) z (b :: bytes) (b :: out) z'

/-- The data bytes of a block are put out as they are. -/
theorem CobsStream.append {z z' : Bool} {bytes out : List Octet} (block : List Octet)
    (h : CobsStream 0 z bytes out z') : CobsStream block.length z (block ++ bytes) (block ++ out) z' := by
  induction block with
  | nil => exact h
  | cons b block ih => exact .data ih

/-- On complete blocks the loop of `decode_stream` is the byte-by-byte reading. -/
theorem CobsStream.of_completeBlocksIn {fuel : Nat} {z : Bool} {bytes : List Octet}
    (h : completeBlocksIn fuel bytes = true) :
    CobsStream 0 z bytes (decodeBlocksIn fuel z bytes).1 (decodeBlocksIn fuel z bytes).2 := by
  induction fuel generalizing z bytes with
  | zero =>
    cases bytes with
    | nil => exact .done
    | cons len bytes => cases h
  | succ fuel ih =>
    cases bytes with
    | nil => exact .done
    | cons len bytes =>
      simp only [completeBlocksIn, Bool.and_eq_true, decide_eq_true_eq] at h
      obtain ⟨⟨hlen, hle⟩, hrest⟩ := h
      have hblock := (ih (z := decide (len.toNat < 255)) hrest).append (bytes.take (len.toNat - 1))
      rw [List.take_append_drop, List.length_take_of_le hle] at hblock
      simpa only [decodeBlocksIn, List.append_assoc] using CobsStream.length (z := z) hlen hblock

/-- The decoder's position in a stream: `k` data bytes of the block to come, and the zero owed after them. -/
inductive Cobs.Awaits (c : Cobs) : Nat → Bool → Prop where
  | length (hst : c.state = .awaitLen) : Awaits c 0 c.zp
  | data {k : Nat} (hst : c.state = .inBlock) (hk : c.cnt.toNat + k + 2 = c.len.toNat) :
      Awaits c (k + 1) (decide (c.len.toNat < 255))

/-- What the decoder shows in this tick (43_cobs_decoder.md R169). -/
def Cobs.shown (c : Cobs) : List Octet := if c.oRdy then [c.oData] else []

/-- A tick without an input byte shows nothing and keeps the position. -/
theorem Cobs.Awaits.silent {c : Cobs} {k : Nat} {z : Bool} (h : c.Awaits k z) :
    Cobs.Awaits { c with oRdy := false } k z := by
  cases h with
  | length hst => exact .length hst
  | data hst hk => exact .data hst hk

/-- A length byte shows the zero owed, and opens a block of as many data bytes as the stream reads. -/
theorem Cobs.Awaits.next_length {c : Cobs} {z : Bool} {b : Octet} (hc : c.Awaits 0 z) (hlen : 1 ≤ b.toNat) :
    ∃ d, Cobs.next true b c = some d ∧ d.Awaits (b.toNat - 1) (decide (b.toNat < 255)) ∧
      d.shown = if z then [0] else [] := by
  obtain ⟨hst⟩ := hc
  have hshown : (if c.zp then [if c.zp then 0 else c.oData] else []) = if c.zp then [(0 : Octet)] else [] := by
    cases c.zp <;> rfl
  by_cases h1 : b = 1
  · subst h1
    exact ⟨_, Cobs.next_lenOne hst, .length rfl, hshown⟩
  · have h0 : b ≠ 0 := by bv_omega
    obtain ⟨n, hn⟩ : ∃ n, b.toNat = n + 2 := ⟨b.toNat - 2, by have := two_le_toNat h0 h1; omega⟩
    have hk : (0 : Octet).toNat + n + 2 = b.toNat := by simp [hn]
    rw [show b.toNat - 1 = n + 1 by omega]
    exact ⟨_, Cobs.next_lenN hst h0 h1, .data rfl hk, hshown⟩

/-- A data byte is shown as it is, and one fewer is to come. -/
theorem Cobs.Awaits.next_data {c : Cobs} {k : Nat} {z : Bool} (b : Octet) (hc : c.Awaits (k + 1) z) :
    ∃ d, Cobs.next true b c = some d ∧ d.Awaits k z ∧ d.shown = [b] := by
  obtain _ | ⟨hst, hk⟩ := hc
  have hlt : c.len.toNat < 256 := c.len.isLt
  cases k with
  | zero =>
    have hz : decide (c.len ≠ 255) = decide (c.len.toNat < 255) := by
      rw [decide_eq_decide]
      bv_omega
    exact ⟨_, Cobs.next_dataLast b hst hk, hz ▸ .length rfl, rfl⟩
  | succ k =>
    have hcnt : (c.cnt + 1).toNat = c.cnt.toNat + 1 := by bv_omega
    have hk' : (c.cnt + 1).toNat + k + 2 = c.len.toNat := by omega
    exact ⟨_, Cobs.next_dataMid b hst (by omega), .data hst hk', rfl⟩

/-- An input byte moves the decoder on by one byte of the stream, and what it shows next is what the stream puts out
for that byte. -/
theorem Cobs.Awaits.next {c : Cobs} {k : Nat} {z z' : Bool} {b : Octet} {bytes out : List Octet}
    (hc : c.Awaits k z) (h : CobsStream k z (b :: bytes) out z') :
    ∃ d k' z₁ out', Cobs.next true b c = some d ∧ d.Awaits k' z₁ ∧ CobsStream k' z₁ bytes out' z' ∧
      out = d.shown ++ out' := by
  cases h with
  | length hlen hrest =>
    obtain ⟨d, hnext, hd, hshown⟩ := hc.next_length hlen
    exact ⟨d, _, _, _, hnext, hd, hrest, by rw [hshown]⟩
  | data hrest =>
    obtain ⟨d, hnext, hd, hshown⟩ := hc.next_data b
    exact ⟨d, _, _, _, hnext, hd, hrest, by rw [hshown]; rfl⟩

/-- What the input of the decoder gives over the coming ticks: a byte, or none. -/
abbrev State.Fed (s : State) (feed : List (Option Octet)) : Prop :=
  ∀ (j : Nat) (x : Option Octet), feed[j]? = some x →
    (s.inputsAt j).iRdy = x.isSome ∧ ∀ b, x = some b → (s.inputsAt j).iData = b

/-- With its own input wires, the decoder takes what the feed gives in this tick. -/
theorem State.Fed.head {s : State} {x : Option Octet} {feed : List (Option Octet)}
    (hwire : s.params.wiring.rxToCobs = false) (h : s.Fed (x :: feed)) :
    s.iRdy = x.isSome ∧ ∀ b, x = some b → s.iData = b := by
  simpa [State.iRdy, State.iData, hwire, State.driven_eq_inputsAt_zero] using h 0 x rfl

/-- A step moves the feed on by one tick. -/
theorem State.Fed.tail {s t : State} {x : Option Octet} {feed : List (Option Octet)}
    (h : s.Fed (x :: feed)) (hstep : step s = .next t) : t.Fed feed := by
  intro j y hy
  rw [step_inputsAt hstep]
  exact h (j + 1) y hy

/-- A step of the hardware with the decoder's next registers. -/
theorem exists_step_cobs {s : State} {d : Cobs} (h : Cobs.next s.iRdy s.iData s.cobs = some d) :
    ∃ t, step s = .next t ∧ t.cobs = d :=
  ⟨_, step_eq_next_iff.mpr ⟨d, h, rfl⟩, rfl⟩

/-- One tick of a fed decoder: the feed's byte, if any, is read from the stream. -/
theorem step_cobs_fed {s : State} {x : Option Octet} {feed : List (Option Octet)} {k : Nat} {z z' : Bool}
    {out : List Octet} (hwire : s.params.wiring.rxToCobs = false) (hfed : s.Fed (x :: feed))
    (hc : s.cobs.Awaits k z) (h : CobsStream k z ((x :: feed).filterMap id) out z') :
    ∃ t k' z₁ out', step s = .next t ∧ t.cobs.Awaits k' z₁ ∧ CobsStream k' z₁ (feed.filterMap id) out' z' ∧
      out = t.cobs.shown ++ out' := by
  obtain ⟨hrdy, hdata⟩ := hfed.head hwire
  cases x with
  | none =>
    have hnext : Cobs.next s.iRdy s.iData s.cobs = some { s.cobs with oRdy := false } := by
      rw [hrdy]
      exact Cobs.next_idle _ _
    obtain ⟨t, hstep, ht⟩ := exists_step_cobs hnext
    exact ⟨t, k, z, out, hstep, ht ▸ hc.silent, h, by rw [ht]; rfl⟩
  | some b =>
    obtain ⟨d, k', z₁, out', hnext, hd, hstream, hout⟩ := hc.next h
    have hnext : Cobs.next s.iRdy s.iData s.cobs = some d := by
      rw [hrdy, hdata b rfl]
      exact hnext
    obtain ⟨t, hstep, rfl⟩ := exists_step_cobs hnext
    exact ⟨t, k', z₁, out', hstep, hd, hstream, hout⟩

theorem shownBytes_one (s : State) : shownBytes 1 s = s.cobs.shown := by
  simp only [shownBytes]
  cases step s <;> exact List.append_nil _

theorem shownBytes_succ_of_next {s t : State} (n : Nat) (h : step s = .next t) :
    shownBytes (n + 1) s = s.cobs.shown ++ shownBytes n t := by
  simp only [shownBytes, h]
  rfl

/-- A decoder fed from its position in a stream goes through to the stream's end and shows what it puts out. -/
theorem run_cobs_fed {feed : List (Option Octet)} {s : State} {k : Nat} {z z' : Bool} {out : List Octet}
    (hwire : s.params.wiring.rxToCobs = false) (hfed : s.Fed feed) (hc : s.cobs.Awaits k z)
    (h : CobsStream k z (feed.filterMap id) out z') :
    ∃ t, run feed.length s = .next t ∧ shownBytes (feed.length + 1) s = s.cobs.shown ++ out ∧
      t.cobs.state = .awaitLen ∧ t.cobs.zp = z' := by
  induction feed generalizing s k z out with
  | nil =>
    cases h
    cases hc with
    | length hst => exact ⟨s, rfl, by rw [List.append_nil]; exact shownBytes_one s, hst, rfl⟩
  | cons x feed ih =>
    obtain ⟨u, k', z₁, out', hstep, hu, hstream, rfl⟩ := step_cobs_fed hwire hfed hc h
    have hwire' : u.params.wiring.rxToCobs = false := by rw [step_params hstep, hwire]
    obtain ⟨t, hrun, hshown, hend⟩ := ih hwire' (hfed.tail hstep) hu hstream
    refine ⟨t, ?_, ?_, hend⟩
    · rw [List.length_cons, run_succ_of_next _ hstep, hrun]
    · rw [List.length_cons, shownBytes_succ_of_next _ hstep, hshown]

/-- Settles O56: the initial decoder stands at the start of the stream of complete blocks, and shows nothing yet. -/
theorem cobsStreamIsDecoded : Obligations.CobsStreamIsDecoded := by
  intro s feed hwire hst hzp hrdy hfed hcomplete
  have hc : s.cobs.Awaits 0 false := hzp ▸ .length hst
  have hshown : s.cobs.shown = [] := by simp [Cobs.shown, hrdy]
  have hrun := run_cobs_fed hwire hfed hc (CobsStream.of_completeBlocksIn hcomplete)
  rwa [hshown] at hrun

end Sys2Proof.Machine
end

section
/-! PROOFS. The statements of 44_restrider.md: when RS performs each operation and what it does, and the filling of a
word by chunks latched in consecutive ticks. -/

namespace Sys2Proof.Machine

/-! ### The operations of RS, one by one (R182 to R185) -/

/-- The transition table of RS: each operation with the 'Selected when' of its rule, the last index `K - 1` read in
ordinary integers (44_restrider.md R182 to R185; 30_encoding.md R94). -/
inductive RsSelects (s : State) : Instr → Prop where
  | hold (hlatch : s.iLatch = false) (hack : s.outReadAck = false) : RsSelects s (.rsHold s.rsLast)
  | ack (hlatch : s.iLatch = false) (hack : s.outReadAck = true) : RsSelects s (.rsAck s.rsLast)
  | writeMid (hlatch : s.iLatch = true) (hidx : s.rs.idx + 1 ≠ s.params.k) :
      RsSelects s (.rsWriteMid s.outReadAck)
  | writeLast (hlatch : s.iLatch = true) (hidx : s.rs.idx + 1 = s.params.k) :
      RsSelects s (.rsWriteLast s.outReadAck)

/-- What the table lists is what the selector decodes to. -/
theorem RsSelects.fetch {s : State} {i : Instr} (h : RsSelects s i) : fetch .rs s = some i := by
  rw [fetch_rs]
  cases h <;> simp [rsOperation, State.rsLast, *]

/-- The table has a row for every state: it splits on the latch, then on the index or the acknowledge. -/
theorem exists_rsSelects (s : State) : ∃ i, RsSelects s i := by
  cases hlatch : s.iLatch with
  | true =>
    by_cases hidx : s.rs.idx + 1 = s.params.k
    · exact ⟨_, .writeLast hlatch hidx⟩
    · exact ⟨_, .writeMid hlatch hidx⟩
  | false =>
    cases hack : s.outReadAck with
    | true => exact ⟨_, .ack hlatch hack⟩
    | false => exact ⟨_, .hold hlatch hack⟩

/-- RS performs exactly the operation that its table lists. -/
theorem fetch_rs_eq_some_iff {s : State} {i : Instr} : fetch .rs s = some i ↔ RsSelects s i := by
  refine ⟨fun h => ?_, RsSelects.fetch⟩
  obtain ⟨j, hj⟩ := exists_rsSelects s
  rwa [← Option.some.inj (hj.fetch.symm.trans h)]

/-- Settles O28: the two rows without a latch, told apart by the acknowledge, of which neither writes a chunk. -/
theorem rsHoldsOrAcknowledges : Obligations.RsHoldsOrAcknowledges := by
  intro s
  simp only [fetch_rs_eq_some_iff]
  refine ⟨⟨?_, ?_⟩, fun _ => rfl, ⟨?_, ?_⟩, fun _ => ⟨_, rfl, rfl, rfl, fun _ => rfl⟩⟩
  · exact fun ⟨_, .hold hlatch hack⟩ => ⟨hlatch, hack⟩
  · exact fun ⟨hlatch, hack⟩ => ⟨_, .hold hlatch hack⟩
  · exact fun ⟨_, .ack hlatch hack⟩ => ⟨hlatch, hack⟩
  · exact fun ⟨hlatch, hack⟩ => ⟨_, .ack hlatch hack⟩

/-- Settles O29: the two rows of a latch, told apart by the index. -/
theorem rsWritesStoreTheChunk : Obligations.RsWritesStoreTheChunk := by
  intro s hk
  have hlast : s.rs.idx = s.params.k - 1 ↔ s.rs.idx + 1 = s.params.k := by omega
  simp only [fetch_rs_eq_some_iff, ne_eq, hlast]
  refine ⟨⟨?_, ?_⟩, fun _ => ⟨_, rfl, rfl, rfl⟩, ⟨?_, ?_⟩, fun _ => ⟨_, rfl, rfl, rfl⟩⟩
  · exact fun ⟨_, .writeMid hlatch hidx⟩ => ⟨hlatch, hidx⟩
  · exact fun ⟨hlatch, hidx⟩ => ⟨_, .writeMid hlatch hidx⟩
  · exact fun ⟨_, .writeLast hlatch hidx⟩ => ⟨hlatch, hidx⟩
  · exact fun ⟨hlatch, hidx⟩ => ⟨_, .writeLast hlatch hidx⟩

/-! ### The filling of a word (R187, R188)

After `n` latches the array is the first `n` new chunks over the old rest, and the next latch writes chunk `n`. -/

/-- With its own input wires, the latch of RS after a run is the one driven then. -/
theorem run_iLatch {s t : State} {n : Nat} (hwire : s.params.wiring.cobsToRs = false)
    (hrun : run n s = .next t) : t.iLatch = (s.inputsAt n).iLatch := by
  rw [State.iLatch, run_params hrun, hwire, State.driven_eq_inputsAt_zero, run_inputsAt hrun]
  rfl

/-- With its own input wires, the chunk on the input of RS after a run is the one driven then. -/
theorem run_rsData {s t : State} {n : Nat} (hwire : s.params.wiring.cobsToRs = false)
    (hrun : run n s = .next t) : t.rsData = (s.inputsAt n).rsData := by
  rw [State.rsData, run_params hrun, hwire, State.driven_eq_inputsAt_zero, run_inputsAt hrun]
  rfl

/-- A latch stores the chunk, counts the index modulo `K`, and sets `done` at the last index only; an acknowledge in
the same tick is not seen (44_restrider.md R181). -/
theorem Rs.next_latch (k : Nat) (b : Octet) (ack : Bool) (r : Rs) :
    Rs.next k true b ack r =
      { idx := if r.idx + 1 = k then 0 else r.idx + 1, chunks := r.chunks.set r.idx b,
        done := decide (r.idx + 1 = k) } := by
  by_cases hidx : r.idx + 1 = k <;> simp [Rs.next, hidx]

/-- The array with the first `n` of the new chunks over the old ones. -/
def fillChunks (old bytes : List Octet) (n : Nat) : List Octet := bytes.take n ++ old.drop n

theorem fillChunks_zero (old bytes : List Octet) : fillChunks old bytes 0 = old := rfl

theorem fillChunks_eq_new {old bytes : List Octet} {n : Nat} (hold : old.length = n) (hnew : bytes.length = n) :
    fillChunks old bytes n = bytes := by
  rw [fillChunks, List.take_of_length_le hnew.le, List.drop_of_length_le hold.le, List.append_nil]

/-- Writing the next new chunk at its index fills the array one chunk further. -/
theorem fillChunks_set {old bytes : List Octet} {b : Octet} {n : Nat} (hold : n < old.length)
    (hb : bytes[n]? = some b) : (fillChunks old bytes n).set n b = fillChunks old bytes (n + 1) := by
  obtain ⟨hn, rfl⟩ := List.getElem?_eq_some_iff.mp hb
  have htake : (bytes.take n).length = n := List.length_take_of_le hn.le
  rw [fillChunks, fillChunks, List.set_append_right _ _ htake.le, htake, Nat.sub_self,
    List.drop_eq_getElem_cons hold, List.set_cons_zero, List.take_succ_eq_append_getElem hn,
    List.append_assoc, List.singleton_append]

/-- RS stands at index 0 on its own inputs and is given the chunks `bytes`, one word of them, in the coming ticks. -/
structure State.FillsWord (s : State) (bytes : List Octet) : Prop where
  ownInputs : s.params.wiring.cobsToRs = false
  idx : s.rs.idx = 0
  length_old : s.rs.chunks.length = s.params.k
  length_new : bytes.length = s.params.k
  latched : ∀ (j : Nat) (b : Octet), bytes[j]? = some b →
    (s.inputsAt j).iLatch = true ∧ (s.inputsAt j).rsData = b

/-- The registers of RS after the latch of chunk `n` in the fill of a word. -/
def rsAfterLatch (k : Nat) (old bytes : List Octet) (n : Nat) : Rs :=
  { idx := if n + 1 = k then 0 else n + 1, chunks := fillChunks old bytes (n + 1), done := decide (n + 1 = k) }

/-- The tick of chunk `n`, from any registers that have the `n` chunks before it. -/
theorem step_rs_fill {s u t : State} {bytes : List Octet} {n : Nat} (hs : s.FillsWord bytes)
    (hn : n < s.params.k) (hrun : run n s = .next u) (hstep : step u = .next t) (hidx : u.rs.idx = n)
    (hchunks : u.rs.chunks = fillChunks s.rs.chunks bytes n) :
    t.rs = rsAfterLatch s.params.k s.rs.chunks bytes n := by
  have hb : bytes[n]? = some (bytes[n]'(hs.length_new ▸ hn)) := List.getElem?_eq_getElem _
  obtain ⟨hlatch, hdata⟩ := hs.latched n _ hb
  rw [step_rs hstep, run_params hrun, run_iLatch hs.ownInputs hrun, hlatch, run_rsData hs.ownInputs hrun, hdata,
    Rs.next_latch, hidx, hchunks, fillChunks_set (hs.length_old ▸ hn) hb, rsAfterLatch]

/-- A run through chunk `n` of the word: by induction each tick finds the chunks before its own. -/
theorem run_rs_fill {s t : State} {bytes : List Octet} {n : Nat} (hs : s.FillsWord bytes) (hn : n < s.params.k)
    (hrun : run (n + 1) s = .next t) : t.rs = rsAfterLatch s.params.k s.rs.chunks bytes n := by
  induction n generalizing t with
  | zero =>
    obtain ⟨u, hu, hstep⟩ := run_succ_last hrun
    cases hu
    exact step_rs_fill hs hn rfl hstep hs.idx (fillChunks_zero _ _).symm
  | succ n ih =>
    obtain ⟨u, hu, hstep⟩ := run_succ_last hrun
    have hrs := ih (by omega) hu
    refine step_rs_fill hs hn hu hstep ?_ (by rw [hrs, rsAfterLatch])
    simp only [hrs, rsAfterLatch, hn.ne, if_false]

/-- Settles O49: the registers after the latch of chunk `n - 1`, before the word is complete and at its last chunk. -/
theorem restriderFillsAWord : Obligations.RestriderFillsAWord := by
  intro s bytes hwire hidx hk hold hnew hlatched
  have hs : s.FillsWord bytes := ⟨hwire, hidx, hold, hnew, hlatched⟩
  constructor
  · intro n t hrun hpos hn
    obtain ⟨m, rfl⟩ := Nat.exists_eq_add_one.mpr hpos
    have hrs := run_rs_fill hs (by omega) hrun
    simp [State.done, hrs, rsAfterLatch, fillChunks, hn.ne]
  · intro t hrun
    obtain ⟨m, hm⟩ := Nat.exists_eq_add_one.mpr hk
    have hrs := run_rs_fill hs (by omega) (hm ▸ hrun)
    rw [hrs, rsAfterLatch, ← hm, fillChunks_eq_new hold hnew, if_pos rfl, decide_eq_true rfl]

end Sys2Proof.Machine
end

section
/-! PROOFS. The statements of 45_pipeline.md: what the wiring of RX to COBS excludes, and the three ticks of an octet's
way from its stop sample to the restrider. -/

namespace Sys2Proof.Machine

/-! ### The wires (R197, R199) -/

theorem State.iData_of_rxToCobs {s : State} (hwire : s.params.wiring.rxToCobs = true) : s.iData = s.rxData := by
  simp [State.iData, hwire]

theorem State.iRdy_of_rxToCobs {s : State} (hwire : s.params.wiring.rxToCobs = true) : s.iRdy = s.rxReady := by
  simp [State.iRdy, hwire]

theorem State.rxAck_of_rxToCobs {s : State} (hwire : s.params.wiring.rxToCobs = true) : s.rxAck = true := by
  simp [State.rxAck, hwire]

theorem State.iLatch_of_cobsToRs {s : State} (hwire : s.params.wiring.cobsToRs = true) : s.iLatch = s.oRdy := by
  simp [State.iLatch, hwire]

theorem State.rsData_of_cobsToRs {s : State} (hwire : s.params.wiring.cobsToRs = true) : s.rsData = s.oData := by
  simp [State.rsData, hwire]

/-- Settles O57: the overrun and the hold are selected under a low acknowledge only, which the wiring ties high. -/
theorem pipelineReceiverNeverOverruns : Obligations.PipelineReceiverNeverOverruns := by
  intro s hwire
  have hack : s.rxAck = true := State.rxAck_of_rxToCobs hwire
  refine ⟨State.iData_of_rxToCobs hwire, State.iRdy_of_rxToCobs hwire, hack, fun p l h => ?_, fun p l h => ?_,
    fun t hready hstep => step_rx_ack hstep hready hack⟩
  · cases fetch_rx_eq_some_iff.mp h with
    | fullOverrun _ _ hlow _ => cases hlow.symm.trans hack
  · cases fetch_rx_eq_some_iff.mp h with
    | fullHold _ _ hlow _ => cases hlow.symm.trans hack

/-! ### The three ticks (R202) -/

/-- A good stop sample makes the octet ready in the next tick (41_uart_rx.md R121). -/
theorem step_rx_stopOk {s t : State} (hstep : step s = .next t) (hst : s.rx.state = .stop)
    (ht : s.rx.timer = 0) (hrst : s.rxRst = false) (hline : s.rxI = true) :
    t.rxReady = true ∧ t.rxData = s.rxData := by
  obtain ⟨hfull, hdata⟩ := step_rx_stop hstep hst ht hrst
  rw [if_pos hline] at hfull
  exact ⟨t.rxReady_iff.mpr hfull, hdata⟩

/-- With no byte on its input the decoder only lowers its ready strobe (43_cobs_decoder.md R162). -/
theorem step_cobs_idle {s t : State} (hstep : step s = .next t) (hrdy : s.iRdy = false) :
    t.cobs = { s.cobs with oRdy := false } := by
  have hnext := step_cobs hstep
  rw [hrdy, Cobs.next_idle] at hnext
  exact (Option.some.inj hnext).symm

/-- A byte inside a block is shown verbatim (43_cobs_decoder.md R167, R168). -/
theorem Cobs.Edge.oData_of_inBlock {b : Octet} {c d : Cobs} (h : Cobs.Edge true b c d)
    (hst : c.state = .inBlock) : d.oData = b := by
  cases h with
  | lenOne hawait => cases hst.symm.trans hawait
  | lenN hawait => cases hst.symm.trans hawait
  | dataMid => rfl
  | dataLast => rfl

/-- A length byte shows the zero that is owed (43_cobs_decoder.md R165). -/
theorem Cobs.Edge.oData_of_zp {b : Octet} {c d : Cobs} (h : Cobs.Edge true b c d)
    (hst : c.state = .awaitLen) (hzp : c.zp = true) : d.oData = 0 := by
  cases h with
  | lenOne => exact if_pos hzp
  | lenN => exact if_pos hzp
  | dataMid hblock => cases hst.symm.trans hblock
  | dataLast hblock => cases hst.symm.trans hblock

/-- The decoder wired to a ready receiver shows a byte exactly inside a block or with a zero owed: the octet
received, or the zero. -/
theorem step_cobs_of_rxReady {s t : State} (hstep : step s = .next t)
    (hwire : s.params.wiring.rxToCobs = true) (hready : s.rxReady = true) :
    (t.oRdy = true ↔ s.cobs.state = .inBlock ∨ s.cobs.zp = true) ∧
      (s.cobs.state = .inBlock → t.oData = s.rxData) ∧
      (s.cobs.state = .awaitLen → s.cobs.zp = true → t.oData = 0) := by
  have hrdy : s.iRdy = true := (State.iRdy_of_rxToCobs hwire).trans hready
  have hedge : Cobs.Edge true s.rxData s.cobs t.cobs := by
    rw [← hrdy, ← State.iData_of_rxToCobs hwire]
    exact Cobs.next_eq_some_iff.mp (step_cobs hstep)
  refine ⟨?_, hedge.oData_of_inBlock, hedge.oData_of_zp⟩
  rw [step_oRdy_iff hstep, and_iff_right hrdy]

/-- The restrider wired to a decoder that shows a byte stores it (45_pipeline.md R199). -/
theorem step_rs_of_oRdy {s t : State} (hstep : step s = .next t)
    (hwire : s.params.wiring.cobsToRs = true) (hshown : s.oRdy = true) :
    t.rs = { idx := if s.rs.idx + 1 = s.params.k then 0 else s.rs.idx + 1
             chunks := s.rs.chunks.set s.rs.idx s.oData
             done := decide (s.rs.idx + 1 = s.params.k) } := by
  rw [step_rs hstep, State.iLatch_of_cobsToRs hwire, hshown, State.rsData_of_cobsToRs hwire, Rs.next_latch]

/-- Settles O58, one tick after the other: the receiver is full, then the decoder shows, then the restrider stores.
In the first tick the receiver is in STOP, so the decoder's state and pending zero wait for the octet. -/
theorem pipelineLatencyIsThreeTicks : Obligations.PipelineLatencyIsThreeTicks := by
  intro s s1 s2 s3 hrx hrs hrst hst ht hline h1 h2 h3
  have hrx1 : s1.params.wiring.rxToCobs = true := by rw [step_params h1, hrx]
  have hrx2 : s2.params.wiring.rxToCobs = true := by rw [step_params h2, hrx1]
  have hrs2 : s2.params.wiring.cobsToRs = true := by rw [step_params h2, step_params h1, hrs]
  obtain ⟨hready1, hdata1⟩ := step_rx_stopOk h1 hst ht hrst hline
  have hack1 : s1.rxAck = true := State.rxAck_of_rxToCobs hrx1
  have hready2 : s2.rxReady = false := step_rx_ack h2 hready1 hack1
  have hquiet : s.iRdy = false := by
    rw [State.iRdy_of_rxToCobs hrx, State.rxReady, hst]
    rfl
  have hshow := step_cobs_of_rxReady h2 hrx1 hready1
  rw [step_cobs_idle h1 hquiet, hdata1] at hshow
  refine ⟨⟨hready1, hdata1, (State.iRdy_of_rxToCobs hrx1).trans hready1,
      (State.iData_of_rxToCobs hrx1).trans hdata1⟩, fun hrst1 => ?_, ⟨hready2, hshow⟩, ?_,
    step_rs_of_oRdy h3 hrs2⟩
  · exact ⟨_, _, _, (RxSelects.fullAck hrst1 (s1.rxReady_iff.mp hready1) hack1).fetch⟩
  · rw [State.oRdy, step_cobs_idle h3 ((State.iRdy_of_rxToCobs hrx2).trans hready2)]

end Sys2Proof.Machine
end

section
/-! PROOFS. The statements of 60_exceptions.md: how RX leaves its error state, and how it takes it. -/

namespace Sys2Proof.Machine

/-! ### Leaving the error state (R220) -/

/-- RX on a reset level takes the initial state, with the shift register kept (41_uart_rx.md R112). -/
theorem step_rx_reset {s t : State} (hstep : step s = .next t) (hrst : s.rxRst = true) :
    t.rx = s.rx.reinit := by
  simp [step_rx hstep, Rx.next, Rx.reinit_eq, hrst]

/-- Without a reset, RX in ERROR reads no input: only the timer moves (41_uart_rx.md R126). -/
theorem step_rx_error {s t : State} (hstep : step s = .next t) (hrst : s.rxRst = false)
    (hst : s.rx.state = .error) : t.rx = { s.rx with timer := tickDown s.rx.timer s.params.dRx } := by
  simp [step_rx hstep, Rx.next, hrst, hst]

/-- Settles O37: the reset level decides between the two steps from ERROR. -/
theorem errorIsLeftOnlyByReset : Obligations.ErrorIsLeftOnlyByReset := by
  intro s t hst hstep
  refine ⟨fun hrst => ?_, fun hrst => ?_⟩
  · have hrx := step_rx_error hstep hrst hst
    have hstay : t.rx.state = .error := by rw [hrx]; exact hst
    exact ⟨hstay, t.rxErr_iff.mpr hstay, by rw [hrx], by rw [hrx]⟩
  · have hidle : t.rx.state = .idle := by rw [step_rx_reset hstep hrst, Rx.reinit_eq]
    exact ⟨hidle, (t.rx_flags_low_of_idle hidle).2⟩

/-! ### Taking the error state (R211, R212, R213, R219) -/

/-- From a state without error, only a low stop sample (E1) or a low line over an unacknowledged octet (E2)
raises `rx_err`. -/
theorem step_rxErr_rises_iff {s t : State} (hstep : step s = .next t) (h0 : s.rxErr = false) :
    t.rxErr = true ↔
      s.rxRst = false ∧ s.rxI = false ∧
        (s.rx.state = .stop ∧ s.rx.timer = 0 ∨ s.rx.state = .full ∧ s.rxAck = false) := by
  have hst : s.rx.state ≠ .error := fun h => by simp [State.rxErr, h] at h0
  simp [step_rxErr_iff hstep, hst]

/-- A low stop sample takes the error: E1 (41_uart_rx.md R122). -/
theorem step_rx_framingError {s t : State} (hstep : step s = .next t) (hrst : s.rxRst = false)
    (hline : s.rxI = false) (hst : s.rx.state = .stop) (ht : s.rx.timer = 0) :
    t.rx = s.rx.enterError s.params.dRx := by
  simp [step_rx hstep, Rx.next, Rx.enterError_eq, hrst, hline, hst, ht]

/-- A low line over an unacknowledged octet takes the error: E2 (41_uart_rx.md R124). -/
theorem step_rx_overrun {s t : State} (hstep : step s = .next t) (hrst : s.rxRst = false)
    (hline : s.rxI = false) (hst : s.rx.state = .full) (hack : s.rxAck = false) :
    t.rx = s.rx.enterError s.params.dRx := by
  simp [step_rx hstep, Rx.next, Rx.enterError_eq, hrst, hline, hst, hack]

/-- Settles O38: `rx_ready` is 1 in FULL and 0 in STOP, which tells the two entries apart; both are the shared
`Rx.enterError`. -/
theorem errorIsEnteredOnlyByFramingOrOverrun : Obligations.ErrorIsEnteredOnlyByFramingOrOverrun := by
  intro s t h0 hstep
  have hrises := step_rxErr_rises_iff hstep h0
  refine ⟨hrises, fun h1 hready => ?_, fun h1 hready => ?_, fun h1 => ?_⟩
  · have hfull : s.rx.state = .full := s.rxReady_iff.mp hready
    obtain ⟨hrst, hline, ⟨hstop, -⟩ | ⟨-, hack⟩⟩ := hrises.mp h1
    · cases hfull.symm.trans hstop
    · exact fetch_rxFullOverrun hrst hfull hack hline
  · obtain ⟨hrst, hline, ⟨hstop, ht⟩ | ⟨hfull, -⟩⟩ := hrises.mp h1
    · exact ⟨_, _, (RxSelects.stopFerr hrst hstop ht hline).fetch⟩
    · cases hready.symm.trans (s.rxReady_iff.mpr hfull)
  · rw [← Rx.enterError_eq]
    obtain ⟨hrst, hline, ⟨hstop, ht⟩ | ⟨hfull, hack⟩⟩ := hrises.mp h1
    · exact step_rx_framingError hstep hrst hline hstop ht
    · exact step_rx_overrun hstep hrst hline hfull hack

end Sys2Proof.Machine
end

section
/-! PROOFS. The statements of 70_reset_and_hazards.md: the values of initialisation, the reset inputs, bring-up, and
the rate tolerance of the receiver. -/

namespace Sys2Proof.Machine

/-! ### Initialisation (R241) -/

/-- Settles O30: the registers are `State.initial`'s, and the outputs are their functions; `State.reset` is the draw
of zeros. -/
theorem initialisationLeavesTheStatedValues : Obligations.InitialisationLeavesTheStatedValues := by
  refine ⟨?_, DataDraw.zero, rfl⟩
  intro p draw stim s
  have hidle : s.rx.state = .idle := rfl
  obtain ⟨hready, herr⟩ := s.rx_flags_low_of_idle hidle
  exact ⟨hidle, rfl, rfl, rfl, rfl, rfl, rfl, rfl, rfl, rfl, rfl, rfl, rfl, hready, herr,
    s.txAck_iff.mpr rfl, rfl, rfl, rfl⟩

/-! ### The reset inputs (R242) -/

/-- TX on a reset level takes the initial state, with the shift register kept (42_uart_tx.md R142). -/
theorem step_tx_reset {s t : State} (hstep : step s = .next t) (hrst : s.txRst = true) :
    t.tx = s.tx.reinit := by
  simp [step_tx hstep, Tx.next, Tx.reinit_eq, hrst]

/-- `s` with other levels driven in this tick. -/
abbrev State.drivenBy (s : State) (x : Inputs) : State := { s with stimulus := x :: s.stimulus.tail }

/-- Of the four transition graphs only RX's reads `rx_rst`. -/
theorem step_drivenBy_rxRst {s t : State} (b : Bool) (hstep : step s = .next t) :
    step (s.drivenBy { s.driven with rxRst := b }) =
      .next (t.setRx (Rx.next s.params.dRx s.rxI s.rxAck b s.rx)) := by
  obtain ⟨c, hcobs, rfl⟩ := step_eq_next_iff.mp hstep
  exact step_eq_next_iff.mpr ⟨c, hcobs, rfl⟩

/-- Of the four transition graphs only TX's reads `tx_rst`. -/
theorem step_drivenBy_txRst {s t : State} (b : Bool) (hstep : step s = .next t) :
    step (s.drivenBy { s.driven with txRst := b }) =
      .next (t.setTx (Tx.next s.params.dTx s.txRdy s.txData b s.tx)) := by
  obtain ⟨c, hcobs, rfl⟩ := step_eq_next_iff.mp hstep
  exact step_eq_next_iff.mpr ⟨c, hcobs, rfl⟩

/-- Settles O33: a reset level decides its own machine's edge, and no other machine's graph reads it. -/
theorem resetInputsActOnTheirMachineOnly : Obligations.ResetInputsActOnTheirMachineOnly :=
  fun s _ hstep => ⟨fun hrst => (step_rx_reset hstep hrst).trans s.rx.reinit_eq,
    fun hrst => (step_tx_reset hstep hrst).trans s.tx.reinit_eq,
    fun b => ⟨_, step_drivenBy_rxRst b hstep, rfl⟩, fun b => ⟨_, step_drivenBy_txRst b hstep, rfl⟩⟩

/-! ### Bring-up (R244) -/

/-- A divisor that passes the checks is at least 1 (40_divider.md R101). -/
theorem one_le_of_divConfig {base target : ℚ} {ceiling : Option ℚ} {d : Nat}
    (h : divConfig base target ceiling = .ok d) : 1 ≤ d := by
  obtain ⟨hround, hpos, -⟩ := checkDivisor_eq_ok_iff.mp h
  omega

/-- A configuration error prevents the start (60_exceptions.md R214). -/
theorem construct_of_error {base target : ℚ} {ceiling : Option ℚ} {e : ConfigurationError}
    (h : divConfig base target ceiling = .error e) (k : Nat) (w : Wiring) (draw : DataDraw)
    (stim : List Inputs) : State.construct base target ceiling k w draw stim = .error e := by
  rw [State.construct, h]

/-- What is constructed is an initial state whose two divisors are the one of `div_config`. -/
theorem construct_eq_ok_iff {base target : ℚ} {ceiling : Option ℚ} {k : Nat} {w : Wiring} {draw : DataDraw}
    {stim : List Inputs} {s : State} :
    State.construct base target ceiling k w draw stim = .ok s ↔
      ∃ d, divConfig base target ceiling = .ok d ∧ State.initial ⟨d, d, k, w⟩ draw stim = s := by
  rw [State.construct]
  cases divConfig base target ceiling <;> simp

/-- Settles O45: the divisor of `div_config` is at least 1, so the parameters are in range and the initial state meets
the invariants. -/
theorem bringUpStartsOnlyValidHardware : Obligations.BringUpStartsOnlyValidHardware := by
  intro base target ceiling k w draw stim
  refine ⟨fun e herror => construct_of_error herror k w draw stim, fun s hok hk => ?_⟩
  obtain ⟨d, hd, rfl⟩ := construct_eq_ok_iff.mp hok
  have hpos : 1 ≤ d := one_le_of_divConfig hd
  exact ⟨initial_inv ⟨hpos, hpos, hk⟩ draw stim, rfl, rfl, hd⟩

/-! ### Rate tolerance (R259) -/

/-- The level of a sender at an instant inside its bit period `j`. -/
theorem senderLevel_of_mem_period {p e : ℚ} {n j : Nat} (b : Octet) (hp : 0 < p) (hfrom : j * p ≤ e + n)
    (hto : e + n < (j + 1) * p) : senderLevel p e b n = frameBit b j := by
  have hperiod : ((e + n) / p).floor = (j : Int) :=
    Int.floor_eq_iff.mpr ⟨(le_div_iff₀ hp).mpr (mod_cast hfrom), (div_lt_iff₀ hp).mpr (mod_cast hto)⟩
  rw [senderLevel, hperiod, Int.toNat_natCast]

/-- Settles O53: tick 0 lies in the sender's start bit, and strobe `j` in its bit `j`. -/
theorem rxToleratesTheSendersRate : Obligations.RxToleratesTheSendersRate := by
  intro s t b p e hd hwire hst hbit hp he _ hep d h hsample hline hrun
  have hend : 2 + h + 9 * d = strobeTick d 9 + 1 := by
    rw [strobeTick]
    omega
  rw [hend] at hline hrun
  have hfirst : senderLevel p e b 0 = false := by
    rw [senderLevel_of_mem_period (j := 0) b hp (by simpa using he) (by simpa using hep)]
    rfl
  have hlevel : ∀ j u, 1 ≤ j → j ≤ 9 → run (strobeTick d j) s = .next u → u.rxI = frameBit b j := by
    intro j u hj hj9 hu
    obtain ⟨hfrom, hto⟩ := hsample j hj hj9
    rw [run_rxI hwire hu, (hline _ (Nat.lt_succ_of_le (strobeTick_le hj9))).2]
    exact senderLevel_of_mem_period b hp hfrom hto
  have hs : s.StartsFrame :=
    ⟨hd, hst, hbit, by rw [run_rxI hwire (run_zero s), (hline 0 (Nat.succ_pos _)).2, hfirst]⟩
  refine run_rx_delivers hs (fun j hj => (hline j hj).1) (fun i u hi hu => ?_) (fun u hu => ?_) hrun
  · rw [hlevel (i + 1) u (by omega) (by omega) hu, frameBit_succ b hi]
  · rw [hlevel 9 u (by omega) le_rfl hu, frameBit_of_nine_le b le_rfl]

end Sys2Proof.Machine
end
